-- ==== Sys2Proof/Word.lean ====
section
/-! DEFINITION. The widths the block's data has (10_state.md R16, 20_memory.md R36, 30_encoding.md R53). -/

namespace Sys2Proof

/-- A command word: 32 bits (R53). -/
abbrev Word := BitVec 32

/-- A register, an immediate, a read port value or a pulse width: 16 bits (R8, R36). -/
abbrev Half := BitVec 16

/-- One byte of a message (R81). -/
abbrev Byte := BitVec 8

/-- The value of the CRC register: 15 bits (R17). -/
abbrev CrcWord := BitVec 15

/-- A register index, and the `r` field of a command: 4 bits (R31, R54). -/
abbrev RegIdx := BitVec 4

end Sys2Proof
end

