-- ==== Sys2Proof/Syntax.lean ====
section
/-! DEFINITION. The six commands of the block's command port and the names their operands and faults have
(30_encoding.md R55, R66; 60_exceptions.md R114). -/

namespace Sys2Proof

/-- A servo. The block drives exactly two, and a servo index is one bit wide (R9). -/
inductive Servo where
  | servo0
  | servo1
  deriving DecidableEq, Repr

/-- The registers that SETR writes: the RW rows of the register map (R31), by the names of R66. -/
inductive OpReg where
  /-- The target of a servo, two's complement (R22). -/
  | tgt (s : Servo)
  /-- The feedback of a servo, unsigned (R23). -/
  | fb (s : Servo)
  /-- The tolerance both servos share, unsigned (R24). -/
  | tol
  /-- The calibrated minimum pulse width of a servo, µs (R25). -/
  | pwmin (s : Servo)
  /-- The calibrated maximum pulse width of a servo, µs (R25). -/
  | pwmax (s : Servo)
  deriving DecidableEq, Repr

/-- The block's fault codes (R114). A fault is recorded in `ERR`; it stops nothing (R113). -/
inductive FaultCode where
  /-- The opcode is 0x0 or 0x7..0xF (R115). -/
  | illegalOpcode
  /-- A bit that must be 0 is 1 (R116). -/
  | reservedBits
  /-- `r` is no writable register (SETR) or no servo (BB_EVAL, BB_HOLD) (R117). -/
  | badIndex
  /-- An operand the command reads was never written (R118). -/
  | uninit
  /-- `PWMIN<s> >= PWMAX<s>` (R119). -/
  | calInvalid
  /-- `FB<s>` is above 100 (R120). -/
  | sensorRange
  deriving DecidableEq, Repr

/-- The commands, one constructor per row of spec/opcode_table.json. An index operand is the 4-bit `r` field as it
stands in the word (R60: "A value of `r` has no further decoding"; R66: a raw `r<N>` assembles as given); which
values are legal is WellFormed's to say, and BAD_INDEX for the others is the command's own check (R91, R99, R104). -/
inductive Instr where
  /-- Start a new checksum (R79). -/
  | crcInit
  /-- Fold one byte into the checksum (R81). -/
  | crcByte (b : Byte)
  /-- Compare the checksum with a received footer (R83). -/
  | crcCheck (f : Half)
  /-- Write an operand register (R91). -/
  | setr (r : RegIdx) (v : Half)
  /-- Compare a servo and drive it if it is outside the tolerance (R99). -/
  | bbEval (r : RegIdx)
  /-- Write the feedback-derived holding pulse width of a servo (R104). -/
  | bbHold (r : RegIdx)
  deriving DecidableEq, Repr

end Sys2Proof
end

