-- ==== Sys2Proof/WellFormed.lean ====
section
/-! DEFINITION. Which terms of Instr are commands of the block: the index operands in range
(30_encoding.md R56, R63). -/

namespace Sys2Proof

/-- A SETR index is a writable register, a BB index is a servo; every other operand takes every value (R56). -/
def Instr.wellFormed : Instr → Bool
  | .crcInit => true
  | .crcByte _ => true
  | .crcCheck _ => true
  | .setr r _ => decide (4 ≤ r.toNat) && decide (r.toNat ≤ 12)
  | .bbEval r => decide (r.toNat ≤ 1)
  | .bbHold r => decide (r.toNat ≤ 1)

/-- The command is well-formed. -/
abbrev Instr.WellFormed (i : Instr) : Prop := i.wellFormed = true

end Sys2Proof
end

