-- ==== Sys2Proof/Decode.lean ====
section
/-! DEFINITION. The decoder of 30_encoding.md, total on 32-bit words and on bytes, its rejections named by the
block's fault codes; then the encoder, from the same rules. -/

namespace Sys2Proof

/-! ## The fields of format C (R54) -/

/-- `op = w[31:28]`. -/
def opField (w : Word) : BitVec 4 := w.extractLsb' 28 4

/-- `r = w[27:24]`. -/
def rField (w : Word) : RegIdx := w.extractLsb' 24 4

/-- `z = w[23:16]`, reserved in every command. -/
def zField (w : Word) : BitVec 8 := w.extractLsb' 16 8

/-- `imm = w[15:0]`. -/
def immField (w : Word) : Half := w.extractLsb' 0 16

/-- `imm[15:8]`, reserved in CRC_BYTE. -/
def immHigh (w : Word) : BitVec 8 := w.extractLsb' 8 8

/-- `imm[7:0]`, CRC_BYTE's data byte, all eight bits of it (R57). -/
def immLow (w : Word) : Byte := w.extractLsb' 0 8

/-! ## Decoding (R63) -/

/-- `i` unless a reserved bit of the word is 1 (R62). -/
def unlessReserved (bad : Bool) (i : Instr) : Except FaultCode Instr :=
  if bad then .error .reservedBits else .ok i

/-- The command a word is, with its operands, or the fault its opcode or its reserved bits raise: the checks of R63 in
R63's order, but for the index checks, the last of each branch. Those are made by the command itself on its `r`
operand (R91, R99, R104 list BAD_INDEX among its faults); `decodeChecked` below is R63 whole. Log entry 4. -/
def decode (w : Word) : Except FaultCode Instr :=
  match (opField w).toNat with
  | 1 => unlessReserved (zField w != 0 || rField w != 0 || immField w != 0) .crcInit
  | 2 => unlessReserved (zField w != 0 || rField w != 0 || immHigh w != 0) (.crcByte (immLow w))
  | 3 => unlessReserved (zField w != 0 || rField w != 0) (.crcCheck (immField w))
  | 4 => unlessReserved (zField w != 0) (.setr (rField w) (immField w))
  | 5 => unlessReserved (zField w != 0 || immField w != 0) (.bbEval (rField w))
  | 6 => unlessReserved (zField w != 0 || immField w != 0) (.bbHold (rField w))
  | _ => .error .illegalOpcode

/-- R63's decoder whole: a command with a legal index, or one fault code. -/
def decodeChecked (w : Word) : Except FaultCode Instr :=
  match decode w with
  | .error c => .error c
  | .ok i => if i.wellFormed then .ok i else .error .badIndex

/-! ## A byte carrier (R44) -/

/-- The word a byte carrier delivers as four bytes, most significant byte first (R44). -/
def wordOfCarrier (b3 b2 b1 b0 : Byte) : Word := b3 ++ b2 ++ b1 ++ b0

/-- The four bytes a byte carrier sends for a word, most significant byte (bits 31:24) first (R44). -/
def carrierOfWord (w : Word) : List Byte :=
  [w.extractLsb' 24 8, w.extractLsb' 16 8, w.extractLsb' 8 8, w.extractLsb' 0 8]

/-- Decoding from a byte carrier: the first word's decoding and the bytes after it; none while fewer than four bytes
have come, for a word is whole (R45). -/
def decodeBytes : List Byte → Option (Except FaultCode Instr × List Byte)
  | b3 :: b2 :: b1 :: b0 :: rest => some (decode (wordOfCarrier b3 b2 b1 b0), rest)
  | _ => none

/-! ## The table's words -/

/-- What `decode` reads from an instruction of the opcode table whose bits are `w`: the command word is one parallel
32-bit value whose bit 0 is the table's bit 0 (R10, R44), and bits above `nbits` are 0. -/
def decodeTableWord (nbits w : Nat) : Option Instr :=
  match decode (BitVec.ofNat 32 (w % 2 ^ nbits)) with
  | .ok i => some i
  | .error _ => none

/-! ## Encoding (R54, R56) -/

/-- A word of format C from its four fields (R54). -/
def wordOfFields (op : BitVec 4) (r : RegIdx) (z : BitVec 8) (imm : Half) : Word := op ++ r ++ z ++ imm

/-- The opcode of a command (R55). -/
def Instr.opcode : Instr → BitVec 4
  | .crcInit => 0x1#4
  | .crcByte _ => 0x2#4
  | .crcCheck _ => 0x3#4
  | .setr _ _ => 0x4#4
  | .bbEval _ => 0x5#4
  | .bbHold _ => 0x6#4

/-- The word of a command (R56). -/
def encode (i : Instr) : Word :=
  match i with
  | .crcInit => wordOfFields 0x1#4 0#4 0#8 0#16
  | .crcByte b => wordOfFields 0x2#4 0#4 0#8 (0#8 ++ b)
  | .crcCheck f => wordOfFields 0x3#4 0#4 0#8 f
  | .setr r v => wordOfFields 0x4#4 r 0#8 v
  | .bbEval r => wordOfFields 0x5#4 r 0#8 0#16
  | .bbHold r => wordOfFields 0x6#4 r 0#8 0#16

end Sys2Proof
end

