-- ==== Sys2Proof/Config.lean ====
section
/-! DEFINITION. The implementation parameters of 00_scope.md R8 that are values, and the two OPEN parameters of
92_eei_decisions.md (D37, D38), which the block never reads. -/

namespace Sys2Proof.Config

/-- `CRC_POLY` (R8, R74). -/
abbrev crcPoly : CrcWord := 0x4599#15

/-- `CRC_BITS_PER_BYTE`: bits 0..6 are folded, bit 7 never (R8, R39). -/
abbrev crcBitsPerByte : Nat := 7

/-- `CRC_INIT_VALUE` (R8, R77). -/
abbrev crcInitValue : CrcWord := 0#15

/-- `FB_FULL_SCALE`: the feedback scale is 0..100 mm (R8). -/
abbrev fbFullScale : Nat := 100

/-- `SETTLE_MS`: the wait the host owes between an evaluation and the resample; no state of the block (R8, R144). -/
abbrev settleMs : Nat := 5

/-- The longest body of a message, in bytes (R73). -/
abbrev maxBodyLength : Nat := 255

/-- The message types whose tags the header's second byte carries (R15, D37). -/
inductive MessageType where
  | hello
  | position
  | update
  | calibrationConf
  | sin
  | walk
  | epoch
  | list
  deriving DecidableEq, Repr

/-- The tag values `TAG_*`: OPEN (D37). The block never reads a tag's meaning (I7). Log entry 9. -/
opaque tagOf : MessageType → Byte

/-- The tags are pairwise distinct (D37): all that is known of them, and a premise of any claim that needs it. -/
def TagsDistinct : Prop := ∀ a b : MessageType, tagOf a = tagOf b → a = b

/-- `FB_CONVERT`: the host's conversion of a raw sensor reading to the mm scale, OPEN (D38, I8). Log entry 9. -/
opaque fbConvert : Servo → Half → Half

end Sys2Proof.Config
end

