-- ==== Sys2Proof/Machine/State.lean ====
section
/-! DEFINITION. The state of the block as plain data: the tuple of 10_state.md R16, then the model's own fields for the
block's ports and streams (R36, R37, R153). -/

namespace Sys2Proof.Machine

/-- What the host puts on the block's input ports (R36). -/
inductive PortInput where
  /-- A command word on the command port. -/
  | command (w : Word)
  /-- An index on the read port. -/
  | read (idx : RegIdx)
  /-- The reset event (R136). -/
  | reset
  deriving DecidableEq, Repr

/-- One event on the actuator output: a servo and a pulse width in µs (R28). -/
structure ActEvent where
  servo : Servo
  width : Half
  deriving DecidableEq, Repr

/-- One entry of the observation history (R28, R153). -/
inductive Obs where
  /-- A command ended Ok (R13). -/
  | ok
  /-- A command ended in a fault (R13). -/
  | fault (c : FaultCode)
  /-- The block emitted an actuator event (R12). -/
  | act (e : ActEvent)
  /-- The read port gave a register's value (R41). -/
  | readOut (idx : RegIdx) (v : Half)
  /-- The block was reset (R136). -/
  | reset
  deriving DecidableEq, Repr

/-- What the comparator decides (R95). -/
inductive Decision where
  | hold
  | driveMin
  | driveMax
  deriving DecidableEq, Repr

/-- The block's state. The fields up to `act1` are R16's tuple and nothing else; the last three are the model's own
(log entries 1 and 3). -/
structure State where
  /-- `crc`, the CRC-15/TL7 state (R17). -/
  crc : CrcWord
  /-- `MATCH`, the result of the last CRC_CHECK (R19). -/
  matched : Bool
  /-- `ERR`, the sticky code of the first fault since reset, 0 for none (R21). -/
  err : BitVec 4
  /-- `TGT0` (R22). -/
  tgt0 : Half
  /-- `TGT1` (R22). -/
  tgt1 : Half
  /-- `FB0` (R23). -/
  fb0 : Half
  /-- `FB1` (R23). -/
  fb1 : Half
  /-- `TOL` (R24). -/
  tol : Half
  /-- `PWMIN0` (R25). -/
  pwmin0 : Half
  /-- `PWMAX0` (R25). -/
  pwmax0 : Half
  /-- `PWMIN1` (R25). -/
  pwmin1 : Half
  /-- `PWMAX1` (R25). -/
  pwmax1 : Half
  /-- `VALID`, bit `r - 4` for operand register `r` (R26, R31). -/
  valid : BitVec 9
  /-- `PWOUT0` (R27). -/
  pwout0 : Half
  /-- `PWOUT1` (R27). -/
  pwout1 : Half
  /-- `ACT0`: 0 NONE, 1 HOLD, 2 DRIVE_MIN, 3 DRIVE_MAX (R20). -/
  act0 : BitVec 2
  /-- `ACT1` (R20). -/
  act1 : BitVec 2
  /-- The model's own: what the host has presented and the block has not yet taken, oldest first (R29, R36). -/
  inputs : List PortInput
  /-- The model's own: the CRC input byte stream, the CRC_BYTE operands since the last CRC_INIT or reset (R37). -/
  crcStream : List Byte
  /-- The model's own: the observation history of the run, oldest first (R28, R153). -/
  history : List Obs
  deriving DecidableEq, Repr

/-- The block right after reset: every piece of state at the value of R137; nothing presented, nothing observed. -/
def State.reset : State where
  crc := 0#15
  matched := false
  err := 0#4
  tgt0 := 0#16
  tgt1 := 0#16
  fb0 := 0#16
  fb1 := 0#16
  tol := 0#16
  pwmin0 := 0#16
  pwmax0 := 0#16
  pwmin1 := 0#16
  pwmax1 := 0#16
  valid := 0#9
  pwout0 := 0#16
  pwout1 := 0#16
  act0 := 0#2
  act1 := 0#2
  inputs := []
  crcStream := []
  history := []

/-- Reasons for the machine to STOP. There are none: every word on the command port has an outcome (R13, R152), a block
fault stops nothing (R113, R124), and the block does not stop itself (R154). The type has no member, so no meaning can
answer with a stop of this kind. The block's own fault codes are `FaultCode`, kept in `ERR`. Log entry 2. -/
inductive Fault
  deriving DecidableEq, Repr

/-- Reasons for the model to refuse an instruction. -/
inductive Refusal where
  /-- Raised only by an arm of `exec` whose instruction has no meaning yet; every arm has one, so nothing raises it.
  Safe: the machine stops where the hardware would go on. -/
  | notModelled (mnemonic : String)
  deriving DecidableEq, Repr

end Sys2Proof.Machine
end

