-- ==== Sys2Proof/Machine/Flags.lean ====
section
/-! DEFINITION. The codes and flag bits of the block: fault codes (60_exceptions.md R114), decision codes
(10_state.md R20), VALID bits (R26, R31), and the read values that are put together from flags (R31, R33). -/

namespace Sys2Proof.Machine

/-- The 4-bit code of a fault (R114). -/
def faultCodeBits : FaultCode → BitVec 4
  | .illegalOpcode => 1#4
  | .reservedBits => 2#4
  | .badIndex => 3#4
  | .uninit => 4#4
  | .calInvalid => 5#4
  | .sensorRange => 6#4

/-- `ERR` after a fault: the first fault since reset is kept (R122). -/
def errAfter (err : BitVec 4) (c : FaultCode) : BitVec 4 := if err = 0#4 then faultCodeBits c else err

/-- The 2-bit code BB_EVAL writes to `ACT<s>` (R20, R100). -/
def decisionBits : Decision → BitVec 2
  | .hold => 1#2
  | .driveMin => 2#2
  | .driveMax => 3#2

/-- `zext_16(crc)`, the 16-bit footer value, whose bit 15 is 0 (R17, R40). -/
def footerValue (c : CrcWord) : Half := c.setWidth 16

/-- The value CRC_CHECK gives `MATCH`: equality of all 16 bits (R83, R58). -/
def footerMatches (c : CrcWord) (f : Half) : Bool := footerValue c == f

/-- The position of an operand register's bit in `VALID` (R31). -/
def validBit : OpReg → Nat
  | .tgt .servo0 => 0
  | .tgt .servo1 => 1
  | .fb .servo0 => 2
  | .fb .servo1 => 3
  | .tol => 4
  | .pwmin .servo0 => 5
  | .pwmax .servo0 => 6
  | .pwmin .servo1 => 7
  | .pwmax .servo1 => 8

/-- The operand register has been written since reset (R26). -/
def State.isValid (s : State) (r : OpReg) : Bool := s.valid.getLsbD (validBit r)

/-- `VALID[r - 4] <- 1` (R91). -/
def State.markValid (s : State) (r : OpReg) : State :=
  { s with valid := s.valid ||| (1#9 <<< validBit r) }

/-- The read value of STATUS: `ERR` in bits 7:4, `MATCH` in bit 0, 0 elsewhere (R31, R33). -/
def statusWord (err : BitVec 4) (matched : Bool) : Half := 0#8 ++ err ++ 0#3 ++ BitVec.ofBool matched

/-- The read value of VALIDR: `VALID` in bits 8:0, 0 above (R31, R33). -/
def validWord (valid : BitVec 9) : Half := 0#7 ++ valid

/-- The read value of ACTR: `ACT1` in bits 3:2, `ACT0` in bits 1:0, 0 above (R31, R33). -/
def actWord (act1 act0 : BitVec 2) : Half := 0#12 ++ act1 ++ act0

end Sys2Proof.Machine
end

