-- ==== Sys2Proof/Machine/Operands.lean ====
section
/-! DEFINITION. Operand forms: register and servo indices (10_state.md R31, R32), the operand registers, the integers the
comparator takes from them (42_bangbang.md R96), and the operand checks of the BB commands (60_exceptions.md R118 to R121). -/

namespace Sys2Proof.Machine

/-! ## Indices -/

/-- The writable register of an index, none for an index SETR may not write (R31, R117). -/
def opRegOfIndex (r : RegIdx) : Option OpReg :=
  match r.toNat with
  | 4 => some (.tgt .servo0)
  | 5 => some (.tgt .servo1)
  | 6 => some (.fb .servo0)
  | 7 => some (.fb .servo1)
  | 8 => some .tol
  | 9 => some (.pwmin .servo0)
  | 10 => some (.pwmax .servo0)
  | 11 => some (.pwmin .servo1)
  | 12 => some (.pwmax .servo1)
  | _ => none

/-- The number of a servo (R9). -/
def servoNumber : Servo → Nat
  | .servo0 => 0
  | .servo1 => 1

/-- The servo of an index, none above 1 (R60, R117). -/
def servoOfIndex (r : RegIdx) : Option Servo :=
  match r.toNat with
  | 0 => some .servo0
  | 1 => some .servo1
  | _ => none

/-- The `r` field of a BB command on a servo (R60). -/
def servoIndex (sv : Servo) : RegIdx := BitVec.ofNat 4 (servoNumber sv)

/-- The index of an operand register, by the formulas of R32. -/
def opRegIndex : OpReg → RegIdx
  | .tgt sv => BitVec.ofNat 4 (0x4 + servoNumber sv)
  | .fb sv => BitVec.ofNat 4 (0x6 + servoNumber sv)
  | .tol => 0x8#4
  | .pwmin sv => BitVec.ofNat 4 (0x9 + 2 * servoNumber sv)
  | .pwmax sv => BitVec.ofNat 4 (0xA + 2 * servoNumber sv)

/-! ## The registers of a servo -/

/-- `R[name]` of an operand register (R12, R32). -/
def State.operand (s : State) : OpReg → Half
  | .tgt .servo0 => s.tgt0
  | .tgt .servo1 => s.tgt1
  | .fb .servo0 => s.fb0
  | .fb .servo1 => s.fb1
  | .tol => s.tol
  | .pwmin .servo0 => s.pwmin0
  | .pwmax .servo0 => s.pwmax0
  | .pwmin .servo1 => s.pwmin1
  | .pwmax .servo1 => s.pwmax1

/-- `R[name] <- v` of an operand register: the 16-bit pattern unchanged (R59, R91). -/
def State.writeOperand (s : State) (r : OpReg) (v : Half) : State :=
  match r with
  | .tgt .servo0 => { s with tgt0 := v }
  | .tgt .servo1 => { s with tgt1 := v }
  | .fb .servo0 => { s with fb0 := v }
  | .fb .servo1 => { s with fb1 := v }
  | .tol => { s with tol := v }
  | .pwmin .servo0 => { s with pwmin0 := v }
  | .pwmax .servo0 => { s with pwmax0 := v }
  | .pwmin .servo1 => { s with pwmin1 := v }
  | .pwmax .servo1 => { s with pwmax1 := v }

/-- `PWOUT<s>` (R27). -/
def State.pwout (s : State) : Servo → Half
  | .servo0 => s.pwout0
  | .servo1 => s.pwout1

/-- `PWOUT<s> <- pw` (R27). -/
def State.setPwout (s : State) (sv : Servo) (pw : Half) : State :=
  match sv with
  | .servo0 => { s with pwout0 := pw }
  | .servo1 => { s with pwout1 := pw }

/-- `ACT<s>` (R20). -/
def State.act (s : State) : Servo → BitVec 2
  | .servo0 => s.act0
  | .servo1 => s.act1

/-- `ACT<s> <- a` (R20). -/
def State.setAct (s : State) (sv : Servo) (a : BitVec 2) : State :=
  match sv with
  | .servo0 => { s with act0 := a }
  | .servo1 => { s with act1 := a }

/-! ## The integers a register stands for (R11, R96) -/

/-- `sint16(TGT<s>)` (R96). -/
def targetOf (s : State) (sv : Servo) : Int := (s.operand (.tgt sv)).toInt

/-- `uint(FB<s>)` (R96). -/
def feedbackOf (s : State) (sv : Servo) : Nat := (s.operand (.fb sv)).toNat

/-- `uint(TOL)` (R96). -/
def toleranceOf (s : State) : Nat := (s.operand .tol).toNat

/-- `uint(PWMIN<s>)` (R99). -/
def pwminOf (s : State) (sv : Servo) : Nat := (s.operand (.pwmin sv)).toNat

/-- `uint(PWMAX<s>)` (R99). -/
def pwmaxOf (s : State) (sv : Servo) : Nat := (s.operand (.pwmax sv)).toNat

/-! ## The operand checks -/

/-- The operands BB_EVAL reads (R99). -/
def evalOperands (sv : Servo) : List OpReg := [.tgt sv, .fb sv, .tol, .pwmin sv, .pwmax sv]

/-- The operands BB_HOLD reads (R104). -/
def holdOperands (sv : Servo) : List OpReg := [.fb sv, .pwmin sv, .pwmax sv]

/-- The fault the `require` lines of a BB command raise, none if all hold: first the VALID bits of the operands the
command reads, then the calibrated range, then the feedback (R99, R104, R121). -/
def operandFault (s : State) (sv : Servo) (reads : List OpReg) : Option FaultCode :=
  if reads.all s.isValid then
    if pwminOf s sv < pwmaxOf s sv then
      if feedbackOf s sv ≤ Config.fbFullScale then none else some .sensorRange
    else some .calInvalid
  else some .uninit

end Sys2Proof.Machine
end

