-- ==== Sys2Proof/Machine/Ops.lean ====
section
/-! DEFINITION. The named operations the meanings and the step are made of: the read port (20_memory.md R41), completing a
command, emitting an event (00_scope.md R12), fault entry (60_exceptions.md R122), reset (70 R137), taking an input. -/

namespace Sys2Proof.Machine

/-- What a step answers. -/
abbrev Answer := Host.Outcome State Fault Refusal

/-! ## The read port -/

/-- `rd(idx)`: the value R31's register map gives the index. -/
def rd (s : State) (idx : RegIdx) : Half :=
  match idx.toNat with
  | 0 => footerValue s.crc
  | 1 => statusWord s.err s.matched
  | 2 => validWord s.valid
  | 4 => s.tgt0
  | 5 => s.tgt1
  | 6 => s.fb0
  | 7 => s.fb1
  | 8 => s.tol
  | 9 => s.pwmin0
  | 10 => s.pwmax0
  | 11 => s.pwmin1
  | 12 => s.pwmax1
  | 13 => s.pwout0
  | 14 => s.pwout1
  | 15 => actWord s.act1 s.act0
  | _ => 0#16

/-! ## The observation history -/

/-- One more entry at the end of the history (R153). -/
def State.record (s : State) (o : Obs) : State := { s with history := s.history ++ [o] }

/-- The actuator event an entry is, if it is one. -/
def eventOf : Obs → Option ActEvent
  | .act e => some e
  | _ => none

/-- The outcome of a command an entry is, if it is one: none for Ok, the code for a fault. -/
def outcomeOf : Obs → Option (Option FaultCode)
  | .ok => some none
  | .fault c => some (some c)
  | _ => none

/-- The sequence of actuator events of the run, in order (R28, R153 item 1). -/
def State.events (s : State) : List ActEvent := s.history.filterMap eventOf

/-- The outcome of every command of the run, in order (R153 item 2). -/
def State.outcomes (s : State) : List (Option FaultCode) := s.history.filterMap outcomeOf

/-- The value of every read port index, index 0 first (R153 item 3). -/
def State.readAll (s : State) : List Half := (List.range 16).map fun k => rd s (BitVec.ofNat 4 k)

/-! ## Writes of the CRC unit -/

/-- `crc <- c`, with the byte stream it is the checksum of (R12, R37). -/
def State.setCrc (s : State) (c : CrcWord) (bytes : List Byte) : State := { s with crc := c, crcStream := bytes }

/-- `MATCH <- b` (R83). -/
def State.setMatched (s : State) (b : Bool) : State := { s with matched := b }

/-! ## Ending a command -/

/-- `emit Act(s, pw)`, which also writes `PWOUT<s>` (R12, R27). -/
def emitAct (s : State) (sv : Servo) (pw : Half) : State := (s.setPwout sv pw).record (.act ⟨sv, pw⟩)

/-- The command ends Ok (R13). -/
def complete (s : State) : Answer := .next (s.record .ok)

/-- Fault entry: the first code since reset is kept in `ERR`, and nothing else of the block changes (R122, R128). -/
def raiseFault (c : FaultCode) (s : State) : State :=
  { s with err := errAfter s.err c, history := s.history ++ [.fault c] }

/-- The command ends in `Fault(code)`; the block takes the next command normally (R113, R123, R124). -/
def takeFault (c : FaultCode) (s : State) : Answer := .next (raiseFault c s)

/-! ## The input ports -/

/-- The oldest input the block has not taken, and the state with it taken (R29, R49). -/
def takeInput (s : State) : Option (PortInput × State) :=
  match s.inputs with
  | [] => none
  | p :: rest => some (p, { s with inputs := rest })

/-- A read on the read port: the register's value goes out, and no state of the block changes (R41). -/
def readPort (idx : RegIdx) (s : State) : State := s.record (.readOut idx (rd s idx))

/-- The reset event: every piece of the block's state at its reset value; events already emitted stay, and what the host
has still to present is the host's (R137). -/
def resetEvent (s : State) : State :=
  { State.reset with inputs := s.inputs, history := s.history ++ [.reset] }

/-- The host presents inputs after those already presented (R49). -/
def State.present (s : State) (ps : List PortInput) : State := { s with inputs := s.inputs ++ ps }

/-- The host presents a word as the very next input. -/
def State.presentNext (s : State) (w : Word) : State := { s with inputs := .command w :: s.inputs }

end Sys2Proof.Machine
end

