-- ==== Sys2Proof/Machine/BangBang.lean ====
section
/-! DEFINITION. The BB unit: the comparator and the holding map (42_bangbang.md R95, R102), BB_EVAL and BB_HOLD
(R99, R104). -/

namespace Sys2Proof.Machine

/-! ## The functions -/

/-- The comparator, on mathematical integers: nothing wraps (R95, R96). The polarity is the spec's, not to be
"corrected" (R107). -/
def bbDecide (t fb tol : Int) : Decision :=
  if ((t - fb).natAbs : Int) > tol then
    if fb < t then .driveMin else .driveMax
  else .hold

/-- The holding map: multiply first, divide once, floor. Its precondition is `fb <= 100` and `mn < mx` (R102). -/
def holdPw (fb mn mx : Nat) : Nat := mn + fb * (mx - mn) / Config.fbFullScale

/-! ## The commands -/

/-- The decision of BB_EVAL on a servo's operands (R96, R99). -/
def evalDecision (s : State) (sv : Servo) : Decision := bbDecide (targetOf s sv) (feedbackOf s sv) (toleranceOf s)

/-- The event of a decision: the calibrated minimum, the calibrated maximum, or none (R98, R99). -/
def driveServo (s : State) (sv : Servo) : Decision → State
  | .hold => s
  | .driveMin => emitAct s sv (s.operand (.pwmin sv))
  | .driveMax => emitAct s sv (s.operand (.pwmax sv))

/-- BB_EVAL on a servo whose operands pass the checks: write ACT, then drive or hold (R99, R100). -/
def evalServo (s : State) (sv : Servo) : State :=
  driveServo (s.setAct sv (decisionBits (evalDecision s sv))) sv (evalDecision s sv)

/-- The holding pulse width of a servo (R104). It fits in 16 bits under the command's checks (R103). -/
def holdWidth (s : State) (sv : Servo) : Half := BitVec.ofNat 16 (holdPw (feedbackOf s sv) (pwminOf s sv) (pwmaxOf s sv))

/-- A BB command: the index check, then the operand checks, then its effect on the servo (R99, R104, R121). -/
def onServo (r : RegIdx) (reads : Servo → List OpReg) (effect : State → Servo → State) (s : State) : Answer :=
  match servoOfIndex r with
  | none => takeFault .badIndex s
  | some sv =>
    match operandFault s sv (reads sv) with
    | some c => takeFault c s
    | none => complete (effect s sv)

/-- BB_EVAL (R99). -/
def execBbEval (r : RegIdx) (s : State) : Answer := onServo r evalOperands evalServo s

/-- BB_HOLD (R104). -/
def execBbHold (r : RegIdx) (s : State) : Answer :=
  onServo r holdOperands (fun s sv => emitAct s sv (holdWidth s sv)) s

end Sys2Proof.Machine
end

