-- ==== Sys2Proof/Machine/Crc.lean ====
section
/-! DEFINITION. The CRC unit: the functions of 40_crc15.md R75 to R78, and CRC_INIT, CRC_BYTE, CRC_CHECK. -/

namespace Sys2Proof.Machine

/-! ## The functions -/

/-- One bit step (R75). The shift drops bit 14, which is the mask to 15 bits. -/
def crcBit (c : CrcWord) (b : Bool) : CrcWord :=
  if b ^^ c.getLsbD 14 then (c <<< 1) ^^^ Config.crcPoly else c <<< 1

/-- One byte step: bits 0..6, LSB first; bit 7 is never read (R76, R39). -/
def crc15Step (c : CrcWord) (x : Byte) : CrcWord :=
  (List.range Config.crcBitsPerByte).foldl (fun c i => crcBit c (x.getLsbD i)) c

/-- Continuing a fold from a state (R85: the state carries across non-contiguous ranges). -/
def crc15From (c : CrcWord) (bs : List Byte) : CrcWord := bs.foldl crc15Step c

/-- The fold over a byte sequence from start state 0 (R77). -/
def crc15 (bs : List Byte) : CrcWord := crc15From Config.crcInitValue bs

/-- The footer: the two header bytes folded first, then the body (R78). -/
def crc15Footer (h0 h1 : Byte) (body : List Byte) : CrcWord := crc15From (crc15From Config.crcInitValue [h0, h1]) body

/-- The software function of the source's signature `crc15_step(state: u16, byte: u8)`: none where the 16-bit state has
bit 15 set, a case the source gives two readings and the spec has a model refuse (R89, I3). No command reaches it. -/
def crc15StepU16 (state : Half) (x : Byte) : Option Half :=
  if state.getLsbD 15 then none else some (footerValue (crc15Step (state.setWidth 15) x))

/-! ## The commands -/

/-- CRC_INIT (R79). -/
def execCrcInit (s : State) : Answer := complete (s.setCrc Config.crcInitValue [])

/-- CRC_BYTE (R81). -/
def execCrcByte (b : Byte) (s : State) : Answer := complete (s.setCrc (crc15Step s.crc b) (s.crcStream ++ [b]))

/-- CRC_CHECK (R83). -/
def execCrcCheck (f : Half) (s : State) : Answer := complete (s.setMatched (footerMatches s.crc f))

end Sys2Proof.Machine
end

