-- ==== Sys2Proof/Machine/Setr.lean ====
section
/-! DEFINITION. Register access: SETR (41_register_access.md R91). -/

namespace Sys2Proof.Machine

/-- SETR: write an operand register and mark it written; an index that is no writable register raises BAD_INDEX
(R91, R117). -/
def execSetr (r : RegIdx) (v : Half) (s : State) : Answer :=
  match opRegOfIndex r with
  | none => takeFault .badIndex s
  | some reg => complete ((s.writeOperand reg v).markValid reg)

end Sys2Proof.Machine
end

