-- ==== Sys2Proof/Machine/Dispatch.lean ====
section
/-! DEFINITION. One arm per command. -/

namespace Sys2Proof.Machine

def exec (i : Instr) (s : State) : Host.Outcome State Fault Refusal :=
  match i with
  | .crcInit => Sys2Proof.Machine.execCrcInit s
  | .crcByte b => Sys2Proof.Machine.execCrcByte b s
  | .crcCheck f => Sys2Proof.Machine.execCrcCheck f s
  | .setr r v => Sys2Proof.Machine.execSetr r v s
  | .bbEval r => Sys2Proof.Machine.execBbEval r s
  | .bbHold r => Sys2Proof.Machine.execBbHold r s

end Sys2Proof.Machine
end

