-- ==== Sys2Proof/Machine/Step.lean ====
section
/-! DEFINITION. One step: the processing of one input to its outcome (00_scope.md R14, 20_memory.md R49). -/

namespace Sys2Proof.Machine

/-- The oldest input presented is processed: a command word is decoded and executed or faults, a read puts a register out,
a reset event resets. With nothing presented the block holds its state (R134, D40; log entry 1). -/
def step (s : State) : Host.Outcome State Fault Refusal :=
  match takeInput s with
  | none => .next s
  | some (.read idx, s') => .next (readPort idx s')
  | some (.reset, s') => .next (resetEvent s')
  | some (.command w, s') =>
    match decode w with
    | .ok i => exec i s'
    | .error c => takeFault c s'

/-- The state with the instruction of the opcode table whose bits are `w` presented as the very next command word
(log entry 1: a program is what the host presents; nothing is loaded). -/
def State.withFetchWord (s : State) (nbits w : Nat) : State := s.presentNext (BitVec.ofNat 32 (w % 2 ^ nbits))

end Sys2Proof.Machine
end

