-- ==== Sys2Proof/Machine/Pseudo.lean ====
section
/-! DEFINITION. The pseudo-instructions, which have no encoding of their own (30_encoding.md R68 to R72), and what a
sequence of commands does. -/

namespace Sys2Proof.Machine

/-- `CRC_FRAME b0, …, bn` (R68). -/
def crcFrame (bs : List Byte) : List Instr := .crcInit :: bs.map .crcByte

/-- `CRC_VERIFY f; b0, …, bn` (R69). -/
def crcVerify (f : Half) (bs : List Byte) : List Instr := crcFrame bs ++ [.crcCheck f]

/-- `SETR <reg>, v` (R66). -/
def setReg (r : OpReg) (v : Half) : Instr := .setr (opRegIndex r) v

/-- `BB_LOADCAL min0, max0, min1, max1` (R70). -/
def bbLoadcal (min0 max0 min1 max1 : Half) : List Instr :=
  [setReg (.pwmin .servo0) min0, setReg (.pwmax .servo0) max0, setReg (.pwmin .servo1) min1, setReg (.pwmax .servo1) max1]

/-- The commands of a control tick before the host's wait (R71, R108 steps 1 and 2). -/
def bbTickDrive (t0 t1 tol f0 f1 : Half) : List Instr :=
  [setReg (.tgt .servo0) t0, setReg (.tgt .servo1) t1, setReg .tol tol, setReg (.fb .servo0) f0, setReg (.fb .servo1) f1,
    .bbEval (servoIndex .servo0), .bbEval (servoIndex .servo1)]

/-- The commands of a control tick after the host's wait (R71, R108 steps 4 and 5). -/
def bbTickHold (g0 g1 : Half) : List Instr :=
  [setReg (.fb .servo0) g0, setReg (.fb .servo1) g1, .bbHold (servoIndex .servo0), .bbHold (servoIndex .servo1)]

/-- `BB_TICK t0, t1, tol; f0, f1; g0, g1`. The wait between its two parts is no command (R71). -/
def bbTick (t0 t1 tol f0 f1 g0 g1 : Half) : List Instr := bbTickDrive t0 t1 tol f0 f1 ++ bbTickHold g0 g1

/-- The commands of a sequence one after another, each seeing every write of the earlier ones (R49). -/
def runCommands : List Instr → State → Answer
  | [], s => .next s
  | i :: rest, s =>
    match exec i s with
    | .next t => runCommands rest t
    | .fault r => .fault r
    | .refused r => .refused r

/-- A sequence of commands as the host presents it: one word each (R29). -/
def presentation (is : List Instr) : List PortInput := is.map fun i => .command (encode i)

end Sys2Proof.Machine
end

