-- ==== Sys2Proof/Machine/Assembler.lean ====
section
/-! DEFINITION. The assembler syntax of 30_encoding.md R65 to R72, on lists of characters, and the disassembler.
What these rules leave open is log entry 8. -/

namespace Sys2Proof.Machine

/-- Why a line is no command of the assembler's. -/
inductive AsmError where
  /-- The first word is none of the six mnemonics of R55. -/
  | unknownMnemonic
  /-- The mnemonic does not take this number of operands (R65). -/
  | wrongOperands
  /-- The operand is no number of R67. -/
  | notANumber
  /-- The number does not fit its operand (R67). -/
  | doesNotFit
  /-- The operand is no writable register's name and no `r<N>` (R66). -/
  | unknownRegister
  /-- The operand is no servo and no `r<N>` (R66). -/
  | unknownServo
  deriving DecidableEq, Repr

/-! ## Numbers (R67) -/

/-- The value of a digit; letters of either case count from ten. -/
def digitValue (c : Char) : Option Nat :=
  if '0' ≤ c ∧ c ≤ '9' then some (c.toNat - 48)
  else if 'A' ≤ c ∧ c ≤ 'F' then some (c.toNat - 55)
  else if 'a' ≤ c ∧ c ≤ 'f' then some (c.toNat - 87)
  else none

/-- The digits of a base after a value already read; none if a character is no digit of the base. -/
def digitsFrom (base : Nat) : Nat → List Char → Option Nat
  | acc, [] => some acc
  | acc, c :: cs =>
    match digitValue c with
    | none => none
    | some d => if d < base then digitsFrom base (acc * base + d) cs else none

/-- One digit or more of a base. -/
def naturalOf (base : Nat) (cs : List Char) : Option Nat :=
  match cs with
  | [] => none
  | _ => digitsFrom base 0 cs

/-- A number: decimal with or without a minus sign, `0x…` or `0b…` (R67). -/
def numberOf (cs : List Char) : Option Int :=
  match cs with
  | '-' :: ds => (naturalOf 10 ds).map fun n => -(n : Int)
  | '0' :: 'x' :: ds => (naturalOf 16 ds).map fun n => (n : Int)
  | '0' :: 'b' :: ds => (naturalOf 2 ds).map fun n => (n : Int)
  | ds => (naturalOf 10 ds).map fun n => (n : Int)

/-- A number within limits, as a pattern of `w` bits, two's complement if negative (R67). -/
def fieldOf (w : Nat) (low high : Int) (cs : List Char) : Except AsmError (BitVec w) :=
  match numberOf cs with
  | none => .error .notANumber
  | some n => if low ≤ n ∧ n ≤ high then .ok (BitVec.ofInt w n) else .error .doesNotFit

/-! ## Names (R66) -/

/-- The register names SETR takes (R66). A read-only register's name is not among them. -/
def regNames : List (String × OpReg) :=
  [("TGT0", .tgt .servo0), ("TGT1", .tgt .servo1), ("FB0", .fb .servo0), ("FB1", .fb .servo1), ("TOL", .tol),
    ("PWMIN0", .pwmin .servo0), ("PWMAX0", .pwmax .servo0), ("PWMIN1", .pwmin .servo1), ("PWMAX1", .pwmax .servo1)]

/-- A raw index `r<N>`, which assembles as given (R66); `N` is decimal and must fit the 4-bit field. -/
def rawIndexOf (cs : List Char) : Option (Except AsmError RegIdx) :=
  match cs with
  | 'r' :: ds =>
    match naturalOf 10 ds with
    | none => none
    | some n => some (if n ≤ 15 then .ok (BitVec.ofNat 4 n) else .error .doesNotFit)
  | _ => none

/-- `<reg>` (R66). -/
def registerOf (cs : List Char) : Except AsmError RegIdx :=
  match regNames.find? fun p => p.1.toList == cs with
  | some p => .ok (opRegIndex p.2)
  | none => (rawIndexOf cs).getD (.error .unknownRegister)

/-- `<servo>` (R66). -/
def servoOf (cs : List Char) : Except AsmError RegIdx :=
  match cs with
  | ['0'] => .ok 0#4
  | ['1'] => .ok 1#4
  | _ => (rawIndexOf cs).getD (.error .unknownServo)

/-! ## Lines (R65) -/

/-- White space between the parts of a line. -/
def isBlank (c : Char) : Bool := c == ' ' || c == '\t'

/-- The characters with the white space at both ends taken off. -/
def trimmed (cs : List Char) : List Char := ((cs.dropWhile isBlank).reverse.dropWhile isBlank).reverse

/-- The line less its comment, which starts with `;` and runs to the end (R65). -/
def withoutComment (cs : List Char) : List Char := cs.takeWhile (· != ';')

/-- The parts of a text between separators, one part for a text without any. -/
def partsAt (sep : Char) : List Char → List (List Char)
  | [] => [[]]
  | c :: cs =>
    match partsAt sep cs with
    | [] => [[c]]
    | p :: ps => if c == sep then [] :: p :: ps else (c :: p) :: ps

/-- The operands after a mnemonic, none for an empty text. -/
def operandTexts (cs : List Char) : List (List Char) :=
  match trimmed cs with
  | [] => []
  | t => (partsAt ',' t).map trimmed

/-- One command from its mnemonic and its operands (R65). -/
def commandOf (mnemonic : List Char) (ops : List (List Char)) : Except AsmError Instr :=
  if mnemonic = "CRC_INIT".toList then
    match ops with
    | [] => .ok .crcInit
    | _ => .error .wrongOperands
  else if mnemonic = "CRC_BYTE".toList then
    match ops with
    | [b] => (fieldOf 8 0 255 b).map .crcByte
    | _ => .error .wrongOperands
  else if mnemonic = "CRC_CHECK".toList then
    match ops with
    | [f] => (fieldOf 16 0 0xFFFF f).map .crcCheck
    | _ => .error .wrongOperands
  else if mnemonic = "SETR".toList then
    match ops with
    | [r, v] =>
      match registerOf r, fieldOf 16 (-32768) 65535 v with
      | .ok r, .ok v => .ok (.setr r v)
      | .error e, _ => .error e
      | _, .error e => .error e
    | _ => .error .wrongOperands
  else if mnemonic = "BB_EVAL".toList then
    match ops with
    | [s] => (servoOf s).map .bbEval
    | _ => .error .wrongOperands
  else if mnemonic = "BB_HOLD".toList then
    match ops with
    | [s] => (servoOf s).map .bbHold
    | _ => .error .wrongOperands
  else .error .unknownMnemonic

/-- One line of assembly: none if it holds no command, else the command (R65). -/
def assembleLine (line : List Char) : Except AsmError (Option Instr) :=
  match trimmed (withoutComment line) with
  | [] => .ok none
  | t => (commandOf (t.takeWhile (!isBlank ·)) (operandTexts (t.dropWhile (!isBlank ·)))).map some

/-- The word a line assembles to (R65). -/
def assembleWord (line : List Char) : Except AsmError (Option Word) := (assembleLine line).map fun i => i.map encode

/-! ## Pseudo-instructions (R68 to R71) -/

/-- Every operand of a list in limits, as patterns of `w` bits. -/
def fieldsOf (w : Nat) (low high : Int) : List (List Char) → Except AsmError (List (BitVec w))
  | [] => .ok []
  | t :: ts =>
    match fieldOf w low high t, fieldsOf w low high ts with
    | .ok v, .ok vs => .ok (v :: vs)
    | .error e, _ => .error e
    | _, .error e => .error e

/-- The bytes of a frame, one or more (R68). -/
def frameOf (ops : List (List Char)) : Except AsmError (List Byte) :=
  match ops with
  | [] => .error .wrongOperands
  | _ => fieldsOf 8 0 255 ops

/-- The values of SETR commands (R67). -/
def valuesOf (ops : List (List Char)) : Except AsmError (List Half) := fieldsOf 16 (-32768) 65535 ops

/-- The expansion of a pseudo-instruction from its mnemonic and the parts of its text between `;`; none if the mnemonic is no
pseudo-instruction's. A part after the last one the form has is a comment (log entry 8). -/
def expansionOf (mnemonic : List Char) (parts : List (List Char)) : Option (Except AsmError (List Instr)) :=
  if mnemonic = "CRC_FRAME".toList then
    match parts with
    | bs :: _ => some ((frameOf (operandTexts bs)).map crcFrame)
    | _ => some (.error .wrongOperands)
  else if mnemonic = "CRC_VERIFY".toList then
    match parts with
    | f :: bs :: _ =>
      match fieldOf 16 0 0xFFFF (trimmed f), frameOf (operandTexts bs) with
      | .ok f, .ok bs => some (.ok (crcVerify f bs))
      | .error e, _ => some (.error e)
      | _, .error e => some (.error e)
    | _ => some (.error .wrongOperands)
  else if mnemonic = "BB_LOADCAL".toList then
    match parts with
    | vs :: _ =>
      match valuesOf (operandTexts vs) with
      | .ok [min0, max0, min1, max1] => some (.ok (bbLoadcal min0 max0 min1 max1))
      | .ok _ => some (.error .wrongOperands)
      | .error e => some (.error e)
    | _ => some (.error .wrongOperands)
  else if mnemonic = "BB_TICK".toList then
    match parts with
    | ts :: fs :: gs :: _ =>
      match valuesOf (operandTexts ts), valuesOf (operandTexts fs), valuesOf (operandTexts gs) with
      | .ok [t0, t1, tol], .ok [f0, f1], .ok [g0, g1] => some (.ok (bbTick t0 t1 tol f0 f1 g0 g1))
      | .ok _, .ok _, .ok _ => some (.error .wrongOperands)
      | .error e, _, _ => some (.error e)
      | _, .error e, _ => some (.error e)
      | _, _, .error e => some (.error e)
    | _ => some (.error .wrongOperands)
  else none

/-- The commands of one line: those of a pseudo-instruction's expansion, or the line's one command, or none
(R65, R68 to R72). -/
def expandLine (line : List Char) : Except AsmError (List Instr) :=
  let t := trimmed line
  let inMnemonic := fun c : Char => !isBlank c && c != ';'
  match expansionOf (t.takeWhile inMnemonic) (partsAt ';' (t.dropWhile inMnemonic)) with
  | some answer => answer
  | none => (assembleLine line).map Option.toList

/-- The commands of the lines of a text, in order. -/
def assembleLines : List (List Char) → Except AsmError (List Instr)
  | [] => .ok []
  | l :: ls =>
    match expandLine l, assembleLines ls with
    | .ok a, .ok b => .ok (a ++ b)
    | .error e, _ => .error e
    | _, .error e => .error e

/-! ## The disassembler (R67, R72) -/

/-- A number in decimal. -/
def decimalText (n : Int) : List Char :=
  match n with
  | .ofNat k => Nat.toDigits 10 k
  | .negSucc k => '-' :: Nat.toDigits 10 (k + 1)

/-- One hexadecimal digit of a value, the digit of weight `16 ^ k`. -/
def hexDigit (v k : Nat) : Char := (Nat.digitChar (v / 16 ^ k % 16)).toUpper

/-- A value as `0x` and a fixed number of hexadecimal digits. -/
def hexText (digits v : Nat) : List Char := "0x".toList ++ ((List.range digits).reverse.map fun k => hexDigit v k)

/-- A raw index `r<N>` (R66). -/
def rawText (r : RegIdx) : List Char := 'r' :: Nat.toDigits 10 r.toNat

/-- A register operand: its name, or the raw form of an index that has none (R66). -/
def registerText (r : RegIdx) : List Char :=
  match regNames.find? fun p => opRegIndex p.2 == r with
  | some p => p.1.toList
  | none => rawText r

/-- SETR's value: signed decimal for `TGT0` and `TGT1`, unsigned decimal for every other register (R67). -/
def valueText (r : RegIdx) (v : Half) : List Char :=
  if r = 0x4#4 ∨ r = 0x5#4 then decimalText v.toInt else decimalText v.toNat

/-- A servo operand (R66). -/
def servoText (r : RegIdx) : List Char :=
  match servoOfIndex r with
  | some sv => Nat.toDigits 10 (servoNumber sv)
  | none => rawText r

/-- The line the disassembler prints for a command (R65, R67). -/
def disassemble : Instr → List Char
  | .crcInit => "CRC_INIT".toList
  | .crcByte b => "CRC_BYTE ".toList ++ hexText 2 b.toNat
  | .crcCheck f => "CRC_CHECK ".toList ++ hexText 4 f.toNat
  | .setr r v => "SETR ".toList ++ registerText r ++ ", ".toList ++ valueText r v
  | .bbEval r => "BB_EVAL ".toList ++ servoText r
  | .bbHold r => "BB_HOLD ".toList ++ servoText r

end Sys2Proof.Machine
end

