-- ==== Sys2Proof/Machine/Frame.lean ====
section
/-! DEFINITION. Where the host meets the block: the bytes a frame feeds the CRC, the footer's wire order, and what the host
reads from MATCH (20_memory.md R38, R40, R42; 70_reset_and_hazards.md R147, R149). -/

namespace Sys2Proof.Machine

/-- The body length of the message types whose length is fixed (R15, 90_conflicts.md C2); LIST has none. -/
def fixedBodyLength : Config.MessageType → Option Nat
  | .hello => some 2
  | .position => some 4
  | .update => some 10
  | .calibrationConf => some 24
  | .sin => some 14
  | .walk => some 1
  | .epoch => some 8
  | .list => none

/-- The two header bytes: the body length, then the type tag (R15, R38). -/
def headerBytes (t : Config.MessageType) (body : List Byte) : List Byte :=
  [BitVec.ofNat 8 body.length, Config.tagOf t]

/-- What the host feeds the CRC for a message: header, then body, never the footer (R38, R147). -/
def frameInput (t : Config.MessageType) (body : List Byte) : List Byte := headerBytes t body ++ body

/-- The two footer bytes in the order they are transmitted: `F[15:8]`, then `F[7:0]` (R40). -/
def footerBytes (f : Half) : List Byte := [f.extractLsb' 8 8, f.extractLsb' 0 8]

/-- The CRC_CHECK operand the host assembles from the two received footer bytes (R42). -/
def assembleFooter (first second : Byte) : Half := first ++ second

/-- A whole message on the wire: header, body, footer (R38, R40). -/
def wireMessage (t : Config.MessageType) (body : List Byte) : List Byte :=
  frameInput t body ++ footerBytes (footerValue (crc15 (frameInput t body)))

/-- What the host concludes from STATUS bit 0 after the CRC_CHECK of a complete frame (R149). -/
inductive HostVerdict where
  /-- Drop the message, send no response. -/
  | checksumMismatch
  /-- Go on to the type and length checks. -/
  | goOn
  deriving DecidableEq, Repr

/-- The host's reading of `MATCH` (R149). -/
def hostVerdict (s : State) : HostVerdict := if (rd s 0x1#4).getLsbD 0 then .goOn else .checksumMismatch

/-- The host's write of a fresh feedback sample, converted to the mm scale first (R90, R108 step 4, D38). -/
def resample (sv : Servo) (raw : Half) : Instr := setReg (.fb sv) (Config.fbConvert sv raw)

end Sys2Proof.Machine
end

