-- ==== Sys2Proof/Safety.lean ====
section
/-! DEFINITION. What the statements speak in: the invariants of the block, its launch premises (70_reset_and_hazards.md R157),
and the conditions under which a BB command executes (42_bangbang.md R99, R104). -/

namespace Sys2Proof.Safety

open Sys2Proof.Machine

/-! ## The history since the last reset -/

/-- One more entry: a reset starts anew. -/
def addSinceReset (l : List Obs) : Obs → List Obs
  | .reset => []
  | o => l ++ [o]

/-- The entries after the last reset of a history. -/
def sinceReset (h : List Obs) : List Obs := h.foldl addSinceReset []

/-- The fault an entry is, if it is one. -/
def faultOf : Obs → Option FaultCode
  | .fault c => some c
  | _ => none

/-- The first fault of a history. -/
def firstFault (h : List Obs) : Option FaultCode := h.findSome? faultOf

/-- The width an entry emits to a servo, if it does. -/
def widthOf (sv : Servo) : Obs → Option Half
  | .act e => if e.servo = sv then some e.width else none
  | _ => none

/-- The widths emitted to a servo in a history, in order. -/
def widthsOf (sv : Servo) (h : List Obs) : List Half := h.filterMap (widthOf sv)

/-! ## Invariants -/

/-- `crc` is the checksum of the CRC input byte stream (R37, R80). -/
def CrcTracksStream (s : State) : Prop := s.crc = crc15 s.crcStream

/-- `ERR` is the code of the first fault since reset, 0 if there was none (R21, R122). -/
def ErrIsFirstFault (s : State) : Prop :=
  s.err = ((firstFault (sinceReset s.history)).map faultCodeBits).getD 0#4

/-- `PWOUT<s>` is the width last emitted to the servo since reset, 0 if there was none (R27). -/
def PwoutIsLastEmitted (s : State) : Prop :=
  ∀ sv : Servo, s.pwout sv = ((widthsOf sv (sinceReset s.history)).getLast?).getD 0#16

/-- An operand register that is not marked valid holds its reset value 0 (R26, R138). -/
def UnwrittenOperandsAreZero (s : State) : Prop := ∀ r : OpReg, s.isValid r = false → s.operand r = 0#16

/-- A servo with a recorded decision has all five operands of its comparator written (R20, R26, R118). -/
def DecisionNeedsOperands (s : State) : Prop :=
  ∀ sv : Servo, s.act sv ≠ 0#2 → ∀ r ∈ [OpReg.tgt sv, .fb sv, .tol, .pwmin sv, .pwmax sv], s.isValid r = true

/-! ## Launch premises (R157) -/

/-- clean-entry: no fault, nothing written, `crc` 0, and no event since the reset (R157). -/
def CleanEntry (s : State) : Prop :=
  s.err = 0#4 ∧ s.valid = 0#9 ∧ s.crc = 0#15 ∧ ∀ sv : Servo, widthsOf sv (sinceReset s.history) = []

/-- calibrated: both calibrated ranges are written and in order (R157). -/
def Calibrated (s : State) : Prop :=
  (∀ sv : Servo, s.isValid (.pwmin sv) = true ∧ s.isValid (.pwmax sv) = true) ∧
    s.pwmin0.toNat < s.pwmax0.toNat ∧ s.pwmin1.toNat < s.pwmax1.toNat

/-! ## When a BB command executes -/

/-- The servo's calibrated range is in order and its feedback is on the scale (R119, R120). -/
def InRange (s : State) (sv : Servo) : Prop :=
  (s.operand (.pwmin sv)).toNat < (s.operand (.pwmax sv)).toNat ∧ (s.operand (.fb sv)).toNat ≤ 100

/-- The operands BB_EVAL reads are written (R99, R118). -/
def EvalWritten (s : State) (sv : Servo) : Prop :=
  s.isValid (.tgt sv) = true ∧ s.isValid (.fb sv) = true ∧ s.isValid .tol = true ∧
    s.isValid (.pwmin sv) = true ∧ s.isValid (.pwmax sv) = true

/-- The operands BB_HOLD reads are written (R104, R118). -/
def HoldWritten (s : State) (sv : Servo) : Prop :=
  s.isValid (.fb sv) = true ∧ s.isValid (.pwmin sv) = true ∧ s.isValid (.pwmax sv) = true

/-- The conditions of BB_EVAL's `require` lines (R99). -/
def EvalReady (s : State) (sv : Servo) : Prop := EvalWritten s sv ∧ InRange s sv

/-- The conditions of BB_HOLD's `require` lines (R104). -/
def HoldReady (s : State) (sv : Servo) : Prop := HoldWritten s sv ∧ InRange s sv

/-! ## A word's fields as numbers, and what is wrong with a command -/

/-- `op`, `r`, `z` and `imm` of a word, as the numbers R54's bit positions give. -/
def opOf (w : Word) : Nat := w.toNat / 2 ^ 28

/-- `r = w[27:24]` as a number. -/
def rOf (w : Word) : Nat := w.toNat / 2 ^ 24 % 16

/-- `z = w[23:16]` as a number. -/
def zOf (w : Word) : Nat := w.toNat / 2 ^ 16 % 256

/-- `imm = w[15:0]` as a number. -/
def immOf (w : Word) : Nat := w.toNat % 2 ^ 16

/-- A bit that R56 requires to be 0 is 1 (R116's list). -/
def reservedBitSet (w : Word) : Bool :=
  decide (zOf w ≠ 0) || decide (opOf w ≤ 3 ∧ rOf w ≠ 0) ||
    decide ((opOf w = 1 ∨ opOf w = 5 ∨ opOf w = 6) ∧ immOf w ≠ 0) || decide (opOf w = 2 ∧ 256 ≤ immOf w)

/-- The state after a command that faults: the code is kept in `ERR` if none is, and the fault is the command's outcome;
nothing else changes (R122). -/
def faulted (code : BitVec 4) (c : FaultCode) (s : State) : State :=
  { s with err := if s.err = 0#4 then code else s.err, history := s.history ++ [.fault c] }

/-- The first check a presented command word breaks, in R121's order, none if it breaks none. The servo of a BB command
is its `r` field, 0 or 1 by then. -/
def firstBroken (s : State) (w : Word) : Option FaultCode :=
  let sv : Servo := if rOf w = 0 then .servo0 else .servo1
  let reads : List OpReg := if opOf w = 5 then [.tgt sv, .fb sv, .tol, .pwmin sv, .pwmax sv] else [.fb sv, .pwmin sv, .pwmax sv]
  if ¬(1 ≤ opOf w ∧ opOf w ≤ 6) then some .illegalOpcode
  else if reservedBitSet w then some .reservedBits
  else if opOf w ≤ 3 then none
  else if opOf w = 4 then if 4 ≤ rOf w ∧ rOf w ≤ 12 then none else some .badIndex
  else if rOf w > 1 then some .badIndex
  else if reads.any fun q => !s.isValid q then some .uninit
  else if (s.operand (.pwmin sv)).toNat ≥ (s.operand (.pwmax sv)).toNat then some .calInvalid
  else if (s.operand (.fb sv)).toNat > 100 then some .sensorRange
  else none

/-! ## The folded bits of a byte sequence -/

/-- Bits 0..6 of each byte, in the order they are folded (R87). -/
def foldedBits (bs : List Byte) : List Bool := bs.flatMap fun x => (List.range 7).map x.getLsbD

/-- The sequence with its `n`-th folded bit flipped: bit `n mod 7` of byte `n div 7` (R87). -/
def flipFolded (bs : List Byte) (n : Nat) : List Byte := bs.modify (n / 7) fun x => x ^^^ (1#8 <<< (n % 7))

end Sys2Proof.Safety
end

