-- ==== Sys2Proof/Certificates/Slice0/Obligations.lean ====
section
/-! DEFINITION. The statements for the provers, from the numbered rules of spec/. -/

open Sys2Proof Sys2Proof.Machine Sys2Proof.Safety

/-! ## Encoding (30_encoding.md) -/

/-- Every command is read back whole from its word: no bit of an operand is dropped (R54, R56). -/
def Obligations.DecodeOfEncode : Prop := ∀ i : Instr, decode (encode i) = .ok i

/-- Each word has at most one meaning: the word a command was decoded from is that command's word (R56). -/
def Obligations.EncodeOfDecode : Prop := ∀ (w : Word) (i : Instr), decode w = .ok i → encode i = w

/-- R63's decoder, check by check in its order, on the word's fields as numbers. -/
def Obligations.DecoderIsTotalInCheckOrder : Prop :=
  ∀ w : Word, decodeChecked w =
    if ¬(1 ≤ opOf w ∧ opOf w ≤ 6) then .error .illegalOpcode
    else if zOf w ≠ 0 then .error .reservedBits
    else if opOf w = 1 then
      if rOf w ≠ 0 ∨ immOf w ≠ 0 then .error .reservedBits else .ok .crcInit
    else if opOf w = 2 then
      if rOf w ≠ 0 ∨ immOf w / 256 ≠ 0 then .error .reservedBits else .ok (.crcByte (BitVec.ofNat 8 (immOf w)))
    else if opOf w = 3 then
      if rOf w ≠ 0 then .error .reservedBits else .ok (.crcCheck (BitVec.ofNat 16 (immOf w)))
    else if opOf w = 4 then
      if ¬(4 ≤ rOf w ∧ rOf w ≤ 12) then .error .badIndex
      else .ok (.setr (BitVec.ofNat 4 (rOf w)) (BitVec.ofNat 16 (immOf w)))
    else if opOf w = 5 then
      if immOf w ≠ 0 then .error .reservedBits
      else if rOf w > 1 then .error .badIndex else .ok (.bbEval (BitVec.ofNat 4 (rOf w)))
    else
      if immOf w ≠ 0 then .error .reservedBits
      else if rOf w > 1 then .error .badIndex else .ok (.bbHold (BitVec.ofNat 4 (rOf w)))

/-- The words of R65's examples, and the servo words of R99 and R104, decode to the commands they stand for. -/
def Obligations.ExampleWordsDecode : Prop :=
  decode 0x10000000#32 = .ok .crcInit ∧ decode 0x20000032#32 = .ok (.crcByte 0x32#8) ∧
  decode 0x30000213#32 = .ok (.crcCheck 0x0213#16) ∧ decode 0x4900044C#32 = .ok (.setr 0x9#4 1100#16) ∧
  decode 0x50000000#32 = .ok (.bbEval 0#4) ∧ decode 0x51000000#32 = .ok (.bbEval 1#4) ∧
  decode 0x60000000#32 = .ok (.bbHold 0#4) ∧ decode 0x61000000#32 = .ok (.bbHold 1#4)

/-- The lines of R65's examples assemble to their words, a raw index assembles as given and a read-only name does not (R66), and
a negative value is its two's-complement pattern (R67). -/
def Obligations.AssemblerLinesGiveTheirWords : Prop :=
  assembleWord "CRC_INIT".toList = .ok (some 0x10000000#32) ∧
  assembleWord "CRC_BYTE 0x32".toList = .ok (some 0x20000032#32) ∧
  assembleWord "CRC_CHECK 0x0213".toList = .ok (some 0x30000213#32) ∧
  assembleWord "SETR PWMIN0, 1100".toList = .ok (some 0x4900044C#32) ∧
  assembleWord "BB_EVAL 1".toList = .ok (some 0x51000000#32) ∧
  assembleWord "BB_HOLD 0".toList = .ok (some 0x60000000#32) ∧
  assembleWord "SETR r3, 5 ; a comment".toList = .ok (some 0x43000005#32) ∧
  assembleWord "SETR STATUS, 5".toList = .error .unknownRegister ∧
  assembleWord "SETR TGT0, -5".toList = .ok (some 0x4400FFFB#32)

/-- A byte carrier's bytes are the word's, most significant byte first, and give the word's decoding back (R44). -/
def Obligations.CarrierSendsHighByteFirst : Prop :=
  ∀ (w : Word) (rest : List Byte),
    (carrierOfWord w).map BitVec.toNat =
      [w.toNat / 2 ^ 24, w.toNat / 2 ^ 16 % 256, w.toNat / 2 ^ 8 % 256, w.toNat % 256] ∧
    decodeBytes (carrierOfWord w ++ rest) = some (decode w, rest)

/-! ## A step (00_scope.md R13, 20_memory.md R49) -/

/-- A command word presented runs the command it decodes to, on the state with the word taken, and nothing else. -/
def Obligations.StepRunsTheDecodedCommand : Prop :=
  ∀ (s : State) (w : Word) (rest : List PortInput) (i : Instr),
    s.inputs = .command w :: rest → decode w = .ok i → step s = exec i { s with inputs := rest }

/-- A word that R63's decoder gives a fault code, a bad index among them, ends in that fault whatever the state. -/
def Obligations.StepTakesTheDecodeFault : Prop :=
  ∀ (s : State) (w : Word) (rest : List PortInput) (c : FaultCode),
    s.inputs = .command w :: rest → decodeChecked w = .error c →
      step s = .next (faulted (faultCodeBits c) c { s with inputs := rest })

/-- Every state has a next state: no input stops the block (R13, R124, R154); with nothing presented it holds its state
(R134). -/
def Obligations.EveryStepCompletes : Prop :=
  ∀ s : State, ∃ t : State, step s = .next t ∧ (s.inputs = [] → t = s)

/-- A presented sequence of commands, stepped one word at a time, does what the commands do one after another (R29, R49). -/
def Obligations.PresentedWordsRunInOrder : Prop :=
  ∀ (is : List Instr) (s : State) (rest : List PortInput), s.inputs = presentation is ++ rest →
    Host.Core.run Sys2Proof.core is.length s = runCommands is { s with inputs := rest }

/-! ## Faults (60_exceptions.md) -/

/-- ILLEGAL_OPCODE, whatever the word's other bits are (R115), and RESERVED_BITS, for a legal opcode and any reserved bit
(R116). -/
def Obligations.IllegalAndReservedWordsFault : Prop :=
  ∀ (s : State) (w : Word) (rest : List PortInput), s.inputs = .command w :: rest →
    ((opOf w = 0 ∨ 7 ≤ opOf w) → step s = .next (faulted 1#4 .illegalOpcode { s with inputs := rest })) ∧
    (1 ≤ opOf w → opOf w ≤ 6 → reservedBitSet w = true →
      step s = .next (faulted 2#4 .reservedBits { s with inputs := rest }))

/-- BAD_INDEX, for a SETR of no writable register and a BB command on no servo (R117). -/
def Obligations.BadIndexFaults : Prop :=
  ∀ (s : State) (r : RegIdx) (v : Half),
    ((r.toNat < 4 ∨ 12 < r.toNat) → exec (.setr r v) s = .next (faulted 3#4 .badIndex s)) ∧
    (1 < r.toNat → exec (.bbEval r) s = .next (faulted 3#4 .badIndex s)) ∧
    (1 < r.toNat → exec (.bbHold r) s = .next (faulted 3#4 .badIndex s))

/-- UNINIT, whatever else is wrong with the operands (R118, R121). -/
def Obligations.UnwrittenOperandFaults : Prop :=
  ∀ (s : State) (sv : Servo),
    ((s.isValid (.tgt sv) = false ∨ s.isValid (.fb sv) = false ∨ s.isValid .tol = false ∨
        s.isValid (.pwmin sv) = false ∨ s.isValid (.pwmax sv) = false) →
      exec (.bbEval (servoIndex sv)) s = .next (faulted 4#4 .uninit s)) ∧
    ((s.isValid (.fb sv) = false ∨ s.isValid (.pwmin sv) = false ∨ s.isValid (.pwmax sv) = false) →
      exec (.bbHold (servoIndex sv)) s = .next (faulted 4#4 .uninit s))

/-- CAL_INVALID, once the operands are written, whatever the feedback is (R119, R121). -/
def Obligations.InvalidCalibrationFaults : Prop :=
  ∀ (s : State) (sv : Servo),
    s.isValid (.fb sv) = true → s.isValid (.pwmin sv) = true → s.isValid (.pwmax sv) = true →
    (s.operand (.pwmin sv)).toNat ≥ (s.operand (.pwmax sv)).toNat →
      exec (.bbHold (servoIndex sv)) s = .next (faulted 5#4 .calInvalid s) ∧
      (s.isValid (.tgt sv) = true → s.isValid .tol = true →
        exec (.bbEval (servoIndex sv)) s = .next (faulted 5#4 .calInvalid s))

/-- SENSOR_RANGE, once the operands are written and the range is in order (R120, R121). -/
def Obligations.SensorRangeFaults : Prop :=
  ∀ (s : State) (sv : Servo),
    s.isValid (.fb sv) = true → s.isValid (.pwmin sv) = true → s.isValid (.pwmax sv) = true →
    (s.operand (.pwmin sv)).toNat < (s.operand (.pwmax sv)).toNat → (s.operand (.fb sv)).toNat > 100 →
      exec (.bbHold (servoIndex sv)) s = .next (faulted 6#4 .sensorRange s) ∧
      (s.isValid (.tgt sv) = true → s.isValid .tol = true →
        exec (.bbEval (servoIndex sv)) s = .next (faulted 6#4 .sensorRange s))

/-- Of several broken checks a command reports the first in R121's order, and Ok if it breaks none. -/
def Obligations.FirstBrokenCheckIsReported : Prop :=
  ∀ (s : State) (w : Word) (rest : List PortInput), s.inputs = .command w :: rest →
    ∃ t : State, step s = .next t ∧ t.outcomes = s.outcomes ++ [firstBroken s w]

/-- A command whose outcome is a fault emits nothing and keeps every piece of state but `ERR`, which changes only from 0
(R122). -/
def Obligations.FaultEntryKeepsEverythingElse : Prop :=
  ∀ (s t : State) (c : FaultCode), step s = .next t → t.outcomes = s.outcomes ++ [some c] →
    t.events = s.events ∧
      ∃ w rest, s.inputs = .command w :: rest ∧ t = faulted (faultCodeBits c) c { s with inputs := rest }

/-- A recorded code stays until a reset, and a reset clears it (R127). -/
def Obligations.OnlyResetClearsErr : Prop :=
  ∀ s t : State, step s = .next t → s.err ≠ 0#4 →
    (s.inputs.head? ≠ some .reset → t.err = s.err) ∧ (s.inputs.head? = some .reset → t.err = 0#4)

/-- What `ERR` holds changes nothing a command does but `ERR` itself (R124). -/
def Obligations.CommandsRunTheSameUnderAnyErr : Prop :=
  ∀ (i : Instr) (s t : State) (e : BitVec 4), exec i s = .next t →
    ∃ t' : State, exec i { s with err := e } = .next t' ∧ t' = { t with err := t'.err }

/-! ## The CRC functions (40_crc15.md) -/

/-- One bit step in arithmetic: shift, drop bit 15, and exclusive-or the constant if the input bit differs from bit 14
(R75). -/
def Obligations.BitStepArithmetic : Prop :=
  ∀ (c : CrcWord) (b : Bool),
    (crcBit c b).toNat =
      if b = (c.toNat / 2 ^ 14 == 1) then (2 * c.toNat) % 2 ^ 15 else ((2 * c.toNat) % 2 ^ 15) ^^^ 0x4599

/-- A byte step is seven bit steps, bit 0 first; bit 7 is never read (R76). The trace of `crc15_step(0x0000, 0x01)`, row by
row (R82). -/
def Obligations.ByteStepFoldsBitsZeroToSix : Prop :=
  (∀ (c : CrcWord) (x : Byte),
    crc15Step c x =
      crcBit (crcBit (crcBit (crcBit (crcBit (crcBit (crcBit c (x.getLsbD 0)) (x.getLsbD 1)) (x.getLsbD 2)) (x.getLsbD 3))
        (x.getLsbD 4)) (x.getLsbD 5)) (x.getLsbD 6) ∧
    crc15Step c (x ^^^ 0x80#8) = crc15Step c x) ∧
  crcBit 0x0000#15 true = 0x4599#15 ∧ crcBit 0x4599#15 false = 0x4EAB#15 ∧ crcBit 0x4EAB#15 false = 0x58CF#15 ∧
  crcBit 0x58CF#15 false = 0x7407#15 ∧ crcBit 0x7407#15 false = 0x2D97#15 ∧ crcBit 0x2D97#15 false = 0x5B2E#15 ∧
  crcBit 0x5B2E#15 false = 0x73C5#15 ∧ crc15Step 0x0000#15 0x01#8 = 0x73C5#15

/-- The fold starts from 0 and takes the bytes in order (R77); the footer is the fold of header then body (R78). -/
def Obligations.FoldAndFooter : Prop :=
  crc15 [] = 0#15 ∧ (∀ (bs : List Byte) (x : Byte), crc15 (bs ++ [x]) = crc15Step (crc15 bs) x) ∧
  ∀ (h0 h1 : Byte) (body : List Byte), crc15Footer h0 h1 body = crc15 ([h0, h1] ++ body)

/-- The fold is linear, and it continues over a split (R85). -/
def Obligations.FoldIsLinear : Prop :=
  (∀ a e : List Byte, a.length = e.length → crc15 (List.zipWith (· ^^^ ·) a e) = crc15 a ^^^ crc15 e) ∧
  ∀ p q : List Byte, crc15From (crc15 p) q = crc15 (p ++ q)

/-- Bit 7 of any byte, a prefix of zero bytes, and sequences of 0x00 and 0x80 are invisible (R86). -/
def Obligations.FoldBlindSpots : Prop :=
  (∀ (p q : List Byte) (x : Byte), crc15 (p ++ (x ^^^ 0x80#8) :: q) = crc15 (p ++ x :: q)) ∧
  (∀ bs : List Byte, crc15 (0x00#8 :: bs) = crc15 bs ∧ crc15 (0x80#8 :: bs) = crc15 bs) ∧
  ∀ bs : List Byte, (∀ x ∈ bs, x = 0x00#8 ∨ x = 0x80#8) → crc15 bs = 0#15

/-- Flipping exactly one folded bit, at any position of any sequence, changes the checksum (R87 item 1). -/
def Obligations.SingleFoldedFlipIsDetected : Prop :=
  ∀ (bs : List Byte) (n : Nat), n < 7 * bs.length → crc15 (flipFolded bs n) ≠ crc15 bs

/-- Two sequences of one length that differ in an odd number of folded bits have different checksums (R87 item 2). -/
def Obligations.OddFoldedFlipsAreDetected : Prop :=
  ∀ a b : List Byte, a.length = b.length →
    (List.zipWith Bool.xor (foldedBits a) (foldedBits b)).count true % 2 = 1 → crc15 a ≠ crc15 b

/-- Two flips exactly 127 folded bits apart leave the checksum as it was (R87 item 3). -/
def Obligations.FlipsOnePeriodApartAreMissed : Prop :=
  ∀ (bs : List Byte) (n : Nat), n + 127 < 7 * bs.length → crc15 (flipFolded (flipFolded bs n) (n + 127)) = crc15 bs

/-- The source's 16-bit function is the block's step below 0x8000, stays below it, and is refused above (R89). -/
def Obligations.SoftwareStepAgreesBelowBit15 : Prop :=
  ∀ (st : Half) (x : Byte),
    (st.toNat < 2 ^ 15 → ∃ r : Half, crc15StepU16 st x = some r ∧ r.toNat < 2 ^ 15 ∧
      r.toNat = (crc15Step (BitVec.ofNat 15 st.toNat) x).toNat) ∧
    (2 ^ 15 ≤ st.toNat → crc15StepU16 st x = none)

/-- The two footer bytes on the wire are the value's high byte, below 0x80, then its low byte (R40); the host assembles them
back into the CRC_CHECK operand, and in the other order only equal bytes give it (R42). -/
def Obligations.FooterIsBigEndianOnTheWire : Prop :=
  ∀ c : CrcWord, ∃ hi lo : Byte, footerBytes (footerValue c) = [hi, lo] ∧ hi.toNat = c.toNat / 256 ∧ hi.toNat < 0x80 ∧
    lo.toNat = c.toNat % 256 ∧ assembleFooter hi lo = footerValue c ∧
    (assembleFooter lo hi = footerValue c ↔ hi = lo)

/-! ## The CRC commands (40_crc15.md) -/

/-- CRC_INIT whole: its effect, its one word, its only fault (R79). -/
def Obligations.CrcInitClearsTheChecksum : Prop :=
  (∀ s : State, exec .crcInit s = .next { s with crc := 0#15, crcStream := [], history := s.history ++ [.ok] }) ∧
  (∀ w : Word, decode w = .ok .crcInit ↔ w = 0x10000000#32) ∧
  ∀ w : Word, opOf w = 1 → (rOf w ≠ 0 ∨ zOf w ≠ 0 ∨ immOf w ≠ 0) → decode w = .error .reservedBits

/-- CRC_BYTE whole: its effect, its words, its only fault, its corner cases and examples (R81). -/
def Obligations.CrcByteFoldsOneByte : Prop :=
  (∀ (s : State) (b : Byte), exec (.crcByte b) s =
    .next { s with crc := crc15Step s.crc b, crcStream := s.crcStream ++ [b], history := s.history ++ [.ok] }) ∧
  (∀ (w : Word) (b : Byte), decode w = .ok (.crcByte b) ↔ w.toNat = 0x20000000 + b.toNat) ∧
  (∀ w : Word, opOf w = 2 → (rOf w ≠ 0 ∨ zOf w ≠ 0 ∨ 256 ≤ immOf w) → decode w = .error .reservedBits) ∧
  (∀ (c : CrcWord) (b : Byte), crc15Step c (b ^^^ 0x80#8) = crc15Step c b) ∧
  crc15Step 0#15 0x00#8 = 0#15 ∧ crc15Step 0#15 0x80#8 = 0#15 ∧ crc15Step 0#15 0x01#8 = 0x73C5#15 ∧
  crc15Step 0#15 0x40#8 = 0x4599#15

/-- CRC_CHECK whole: its effect, its words, its only fault; a footer with bit 15 set never matches (R83). A mismatch is no
fault: `ERR` stays (R125). -/
def Obligations.CrcCheckComparesSixteenBits : Prop :=
  (∀ (s : State) (f : Half), exec (.crcCheck f) s =
    .next { s with matched := decide (s.crc.toNat = f.toNat), history := s.history ++ [.ok] }) ∧
  (∀ (w : Word) (f : Half), decode w = .ok (.crcCheck f) ↔ w.toNat = 0x30000000 + f.toNat) ∧
  (∀ w : Word, opOf w = 3 → (rOf w ≠ 0 ∨ zOf w ≠ 0) → decode w = .error .reservedBits) ∧
  (∀ (s : State) (f : Half), 2 ^ 15 ≤ f.toNat → ∃ t : State, exec (.crcCheck f) s = .next t ∧ t.matched = false) ∧
  crc15 [0x04#8, 0x02#8, 0x32#8, 0x64#8, 0x14#8, 0x0A#8] = 0x0213#15

/-- CRC_FRAME is CRC_INIT and one CRC_BYTE a byte; afterwards `crc` is the checksum of the bytes and the read port's index 0 its
value, which is the footer of the header and body the bytes are; from any state, and nothing outside the CRC register
changes (R68). -/
def Obligations.FrameLeavesItsFooter : Prop :=
  (∀ (bs : List Byte) (s : State), crcFrame bs = .crcInit :: bs.map Instr.crcByte ∧
    ∃ t : State, runCommands (crcFrame bs) s = .next t ∧ t.crc = crc15 bs ∧ (rd t 0x0#4).toNat = (crc15 bs).toNat ∧
      t = { s with crc := t.crc, crcStream := bs, history := s.history ++ List.replicate (bs.length + 1) .ok }) ∧
  ∀ (h0 h1 : Byte) (body : List Byte), crc15 (h0 :: h1 :: body) = crc15Footer h0 h1 body

/-- CRC_VERIFY is CRC_FRAME then CRC_CHECK; it sets MATCH exactly when the received value is the frame's footer, and the host's
verdict follows (R69, R149). -/
def Obligations.VerifyMatchesExactlyTheFooter : Prop :=
  ∀ (f : Half) (bs : List Byte) (s : State), crcVerify f bs = crcFrame bs ++ [.crcCheck f] ∧
    ∃ t : State, runCommands (crcVerify f bs) s = .next t ∧
      (t.matched = true ↔ f.toNat = (crc15 bs).toNat) ∧ (hostVerdict t = .goOn ↔ t.matched = true) ∧ t.err = s.err ∧
      t.history = s.history ++ List.replicate (bs.length + 2) .ok

/-- `crc` is written by CRC_INIT, CRC_BYTE and reset alone, and a SETR of index 0 is a BAD_INDEX fault (R18); `MATCH` is written
by CRC_CHECK and reset alone (R19). -/
def Obligations.CrcUnitHasNoOtherWriter : Prop :=
  (∀ s t : State, step s = .next t →
    (t.crc = s.crc ∨ (s.inputs.head? = some .reset ∧ t.crc = 0#15) ∨
      ∃ w rest, s.inputs = .command w :: rest ∧
        ((decode w = .ok .crcInit ∧ t.crc = 0#15) ∨ ∃ b, decode w = .ok (.crcByte b) ∧ t.crc = crc15Step s.crc b)) ∧
    (t.matched = s.matched ∨ (s.inputs.head? = some .reset ∧ t.matched = false) ∨
      ∃ w rest f, s.inputs = .command w :: rest ∧ decode w = .ok (.crcCheck f) ∧
        (t.matched = true ↔ s.crc.toNat = f.toNat))) ∧
  ∀ (s : State) (v : Half), exec (.setr 0x0#4 v) s = .next (faulted 3#4 .badIndex s)

/-! ## Registers and the read port (10_state.md, 20_memory.md, 41_register_access.md) -/

/-- The register index map: what each of the sixteen indices reads, the VALID bit of each writable one, and that SETR writes
no other index (R31, R32). -/
def Obligations.RegisterIndexMap : Prop :=
  ∀ s : State,
    ((rd s 0x0#4).toNat = s.crc.toNat ∧ (rd s 0x1#4).toNat = 16 * s.err.toNat + s.matched.toNat ∧
      (rd s 0x2#4).toNat = s.valid.toNat ∧ rd s 0x3#4 = 0#16 ∧
      rd s 0xD#4 = s.pwout .servo0 ∧ rd s 0xE#4 = s.pwout .servo1 ∧
      (rd s 0xF#4).toNat = 4 * (s.act .servo1).toNat + (s.act .servo0).toNat) ∧
    (rd s 0x4#4 = s.operand (.tgt .servo0) ∧ rd s 0x5#4 = s.operand (.tgt .servo1) ∧
      rd s 0x6#4 = s.operand (.fb .servo0) ∧ rd s 0x7#4 = s.operand (.fb .servo1) ∧ rd s 0x8#4 = s.operand .tol ∧
      rd s 0x9#4 = s.operand (.pwmin .servo0) ∧ rd s 0xA#4 = s.operand (.pwmax .servo0) ∧
      rd s 0xB#4 = s.operand (.pwmin .servo1) ∧ rd s 0xC#4 = s.operand (.pwmax .servo1)) ∧
    (∀ q : OpReg, rd s (opRegIndex q) = s.operand q ∧ 4 ≤ (opRegIndex q).toNat ∧ (opRegIndex q).toNat ≤ 12 ∧
      s.isValid q = s.valid.getLsbD ((opRegIndex q).toNat - 4)) ∧
    ∀ (r : RegIdx) (v : Half), r.toNat < 4 ∨ 12 < r.toNat →
      ∃ t : State, exec (.setr r v) s = .next t ∧ ∀ j : RegIdx, j ≠ 0x1#4 → rd t j = rd s j

/-- Every bit the register map marks 0 reads 0 (R33). -/
def Obligations.ReservedRegisterBitsReadZero : Prop :=
  ∀ (s : State) (k : Nat),
    (rd s 0x3#4).getLsbD k = false ∧ ((1 ≤ k ∧ k ≤ 3) ∨ 8 ≤ k → (rd s 0x1#4).getLsbD k = false) ∧
    (9 ≤ k → (rd s 0x2#4).getLsbD k = false) ∧ (4 ≤ k → (rd s 0xF#4).getLsbD k = false)

/-- A read gives the register's value and changes nothing a later read could see, and emits nothing (R41). -/
def Obligations.ReadHasNoSideEffect : Prop :=
  ∀ (s : State) (idx : RegIdx) (rest : List PortInput), s.inputs = .read idx :: rest →
    ∃ t : State, step s = .next t ∧ t = { s with inputs := rest, history := s.history ++ [.readOut idx (rd s idx)] } ∧
      (∀ j : RegIdx, rd t j = rd s j) ∧ t.events = s.events

/-- SETR whole: the register and its VALID bit are written and nothing else, its words, its faults (R91). -/
def Obligations.SetrWritesOneRegister : Prop :=
  (∀ (s : State) (r : RegIdx) (v : Half), 4 ≤ r.toNat → r.toNat ≤ 12 →
    ∃ t : State, exec (.setr r v) s = .next t ∧ rd t r = v ∧
      rd t 0x2#4 = (rd s 0x2#4 ||| (1#16 <<< (r.toNat - 4))) ∧ (∀ j : RegIdx, j ≠ r → j ≠ 0x2#4 → rd t j = rd s j) ∧
      t.inputs = s.inputs ∧ t.crcStream = s.crcStream ∧ t.history = s.history ++ [.ok]) ∧
  (∀ (w : Word) (r : RegIdx) (v : Half),
    decode w = .ok (.setr r v) ↔ w.toNat = 0x40000000 + r.toNat * 2 ^ 24 + v.toNat) ∧
  (∀ w : Word, opOf w = 4 → zOf w ≠ 0 → decode w = .error .reservedBits) ∧
  ∀ (s : State) (r : RegIdx) (v : Half), r.toNat < 4 ∨ 12 < r.toNat →
    exec (.setr r v) s = .next (faulted 3#4 .badIndex s)

/-- A target with bit 15 set is negative, and the same pattern in another register is not (R92). -/
def Obligations.TargetIsSigned : Prop :=
  ∀ (s : State) (sv : Servo) (v : Half), 2 ^ 15 ≤ v.toNat →
    (∃ t : State, exec (.setr (opRegIndex (.tgt sv)) v) s = .next t ∧ targetOf t sv = (v.toNat : Int) - 65536) ∧
    (∃ t : State, exec (.setr (opRegIndex (.fb sv)) v) s = .next t ∧ feedbackOf t sv = v.toNat) ∧
    (∃ t : State, exec (.setr (opRegIndex .tol) v) s = .next t ∧ toleranceOf t = v.toNat) ∧
    (∃ t : State, exec (.setr (opRegIndex (.pwmin sv)) v) s = .next t ∧ pwminOf t sv = v.toNat) ∧
    (∃ t : State, exec (.setr (opRegIndex (.pwmax sv)) v) s = .next t ∧ pwmaxOf t sv = v.toNat)

/-- An operand register is written, and its VALID bit set, by a SETR of that register alone; reset alone clears them
(R26, R91). -/
def Obligations.OperandsHaveNoOtherWriter : Prop :=
  ∀ (s t : State) (q : OpReg), step s = .next t →
    (t.operand q = s.operand q ∧ t.isValid q = s.isValid q) ∨
    (s.inputs.head? = some .reset ∧ t.operand q = 0#16 ∧ t.isValid q = false) ∨
    ∃ w rest v, s.inputs = .command w :: rest ∧ decode w = .ok (.setr (opRegIndex q) v) ∧
      t.operand q = v ∧ t.isValid q = true

/-! ## The BB unit (42_bangbang.md) -/

/-- The comparator, for every target, feedback and non-negative tolerance (R95). -/
def Obligations.ComparatorDecision : Prop :=
  ∀ t fb tol : Int, 0 ≤ tol →
    (bbDecide t fb tol = .driveMin ↔ t - fb > tol) ∧ (bbDecide t fb tol = .driveMax ↔ fb - t > tol) ∧
    (bbDecide t fb tol = .hold ↔ -tol ≤ t - fb ∧ t - fb ≤ tol)

/-- BB_EVAL whole: on a servo whose checks pass it writes ACT, and drives to the calibrated minimum, to the maximum, or holds, on
exact integers, and nothing else changes (R98, R100); its words; its faults in their order (R99). -/
def Obligations.EvalDrivesOrHolds : Prop :=
  (∀ (s : State) (sv : Servo), EvalReady s sv →
    ((s.operand (.tgt sv)).toInt - (s.operand (.fb sv)).toNat > (s.operand .tol).toNat →
      exec (.bbEval (servoIndex sv)) s =
        .next { (s.setAct sv 2#2).setPwout sv (s.operand (.pwmin sv)) with
          history := s.history ++ [.act ⟨sv, s.operand (.pwmin sv)⟩, .ok] }) ∧
    ((s.operand (.fb sv)).toNat - (s.operand (.tgt sv)).toInt > (s.operand .tol).toNat →
      exec (.bbEval (servoIndex sv)) s =
        .next { (s.setAct sv 3#2).setPwout sv (s.operand (.pwmax sv)) with
          history := s.history ++ [.act ⟨sv, s.operand (.pwmax sv)⟩, .ok] }) ∧
    (((s.operand (.tgt sv)).toInt - (s.operand (.fb sv)).toNat).natAbs ≤ (s.operand .tol).toNat →
      exec (.bbEval (servoIndex sv)) s = .next { s.setAct sv 1#2 with history := s.history ++ [.ok] })) ∧
  (∀ (w : Word) (sv : Servo), decode w = .ok (.bbEval (servoIndex sv)) ↔
    w = (match sv with | .servo0 => 0x50000000#32 | .servo1 => 0x51000000#32)) ∧
  (∀ w : Word, opOf w = 5 → (zOf w ≠ 0 ∨ immOf w ≠ 0) → decode w = .error .reservedBits) ∧
  (∀ (s : State) (r : RegIdx), 1 < r.toNat → exec (.bbEval r) s = .next (faulted 3#4 .badIndex s)) ∧
  ∀ (s : State) (sv : Servo),
    (¬EvalWritten s sv → exec (.bbEval (servoIndex sv)) s = .next (faulted 4#4 .uninit s)) ∧
    (EvalWritten s sv → (s.operand (.pwmin sv)).toNat ≥ (s.operand (.pwmax sv)).toNat →
      exec (.bbEval (servoIndex sv)) s = .next (faulted 5#4 .calInvalid s)) ∧
    (EvalWritten s sv → (s.operand (.pwmin sv)).toNat < (s.operand (.pwmax sv)).toNat → (s.operand (.fb sv)).toNat > 100 →
      exec (.bbEval (servoIndex sv)) s = .next (faulted 6#4 .sensorRange s))

/-- The holding map: exact at both ends, the floor of the linear map between, non-decreasing, inside the range
(R102, R103). -/
def Obligations.HoldingMapIsTheFloorOfTheLine : Prop :=
  ∀ mn mx fb : Nat, mn < mx → fb ≤ 100 →
    holdPw 0 mn mx = mn ∧ holdPw 100 mn mx = mx ∧ mn ≤ holdPw fb mn mx ∧ holdPw fb mn mx ≤ mx ∧
    100 * (holdPw fb mn mx - mn) ≤ fb * (mx - mn) ∧ fb * (mx - mn) < 100 * (holdPw fb mn mx - mn) + 100 ∧
    (∀ g : Nat, fb ≤ g → holdPw fb mn mx ≤ holdPw g mn mx) ∧ (mx ≤ 65535 → fb * (mx - mn) ≤ 6553500) ∧
    holdPw 16 1100 1900 = 1228 ∧ holdPw 33 1000 2000 = 1330 ∧ holdPw 99 1000 1099 = 1098

/-- BB_HOLD whole: on a servo whose checks pass it emits and writes the holding pulse width, which is in the calibrated range, and
changes nothing else, ACT included; its words; its faults in their order (R104). -/
def Obligations.HoldEmitsTheHoldingWidth : Prop :=
  (∀ (s : State) (sv : Servo), HoldReady s sv →
    ∃ pw : Half,
      pw.toNat = (s.operand (.pwmin sv)).toNat +
        (s.operand (.fb sv)).toNat * ((s.operand (.pwmax sv)).toNat - (s.operand (.pwmin sv)).toNat) / 100 ∧
      (s.operand (.pwmin sv)).toNat ≤ pw.toNat ∧ pw.toNat ≤ (s.operand (.pwmax sv)).toNat ∧
      exec (.bbHold (servoIndex sv)) s = .next { s.setPwout sv pw with history := s.history ++ [.act ⟨sv, pw⟩, .ok] }) ∧
  (∀ (w : Word) (sv : Servo), decode w = .ok (.bbHold (servoIndex sv)) ↔
    w = (match sv with | .servo0 => 0x60000000#32 | .servo1 => 0x61000000#32)) ∧
  (∀ w : Word, opOf w = 6 → (zOf w ≠ 0 ∨ immOf w ≠ 0) → decode w = .error .reservedBits) ∧
  (∀ (s : State) (r : RegIdx), 1 < r.toNat → exec (.bbHold r) s = .next (faulted 3#4 .badIndex s)) ∧
  ∀ (s : State) (sv : Servo),
    (¬HoldWritten s sv → exec (.bbHold (servoIndex sv)) s = .next (faulted 4#4 .uninit s)) ∧
    (HoldWritten s sv → (s.operand (.pwmin sv)).toNat ≥ (s.operand (.pwmax sv)).toNat →
      exec (.bbHold (servoIndex sv)) s = .next (faulted 5#4 .calInvalid s)) ∧
    (HoldWritten s sv → (s.operand (.pwmin sv)).toNat < (s.operand (.pwmax sv)).toNat → (s.operand (.fb sv)).toNat > 100 →
      exec (.bbHold (servoIndex sv)) s = .next (faulted 6#4 .sensorRange s))

/-- A BB command that ends in a next state leaves the CRC unit, every operand register, VALID, and the other servo's ACT and
PWOUT as they were; BB_HOLD leaves ACT (R101, R104, R106). -/
def Obligations.BangBangFrame : Prop :=
  ∀ (s t : State) (r : RegIdx), (exec (.bbEval r) s = .next t ∨ exec (.bbHold r) s = .next t) →
    t.crc = s.crc ∧ t.matched = s.matched ∧ t.crcStream = s.crcStream ∧ t.inputs = s.inputs ∧ t.valid = s.valid ∧
    (∀ q : OpReg, t.operand q = s.operand q) ∧
    (∀ sv : Servo, servoIndex sv ≠ r → t.act sv = s.act sv ∧ t.pwout sv = s.pwout sv) ∧
    (exec (.bbHold r) s = .next t → ∀ sv : Servo, t.act sv = s.act sv)

/-- What a BB command does to its servo depends on that servo's registers and TOL alone; BB_HOLD not even on TGT and TOL
(R101, R106). -/
def Obligations.ServosAreIndependent : Prop :=
  ∀ (s s' : State) (sv : Servo),
    (∀ q ∈ [OpReg.fb sv, .pwmin sv, .pwmax sv], s'.operand q = s.operand q ∧ s'.isValid q = s.isValid q) →
    s'.act sv = s.act sv → s'.pwout sv = s.pwout sv →
    (∃ t t' h, exec (.bbHold (servoIndex sv)) s = .next t ∧ exec (.bbHold (servoIndex sv)) s' = .next t' ∧
      t.history = s.history ++ h ∧ t'.history = s'.history ++ h ∧ t'.pwout sv = t.pwout sv) ∧
    ((∀ q ∈ [OpReg.tgt sv, .tol], s'.operand q = s.operand q ∧ s'.isValid q = s.isValid q) →
      ∃ t t' h, exec (.bbEval (servoIndex sv)) s = .next t ∧ exec (.bbEval (servoIndex sv)) s' = .next t' ∧
        t.history = s.history ++ h ∧ t'.history = s'.history ++ h ∧ t'.pwout sv = t.pwout sv ∧ t'.act sv = t.act sv)

/-- The BB unit's outputs have no other writer: a step emits nothing and leaves PWOUT, or it is a reset, which emits nothing and
clears PWOUT, or it is a BB command and emits one event, for its servo, whose width that servo's PWOUT then holds
(R27, R109); ACT is written by BB_EVAL of that servo, never with 0, and by reset alone (R20). -/
def Obligations.OnlyBangBangCommandsEmit : Prop :=
  ∀ s t : State, step s = .next t →
    ((t.events = s.events ∧ ∀ sv : Servo, t.pwout sv = s.pwout sv) ∨
      (s.inputs.head? = some .reset ∧ t.events = s.events ∧ ∀ sv : Servo, t.pwout sv = 0#16) ∨
      ∃ w rest e, s.inputs = .command w :: rest ∧
        (decode w = .ok (.bbEval (servoIndex e.servo)) ∨ decode w = .ok (.bbHold (servoIndex e.servo))) ∧
        t.events = s.events ++ [e] ∧ t.pwout e.servo = e.width ∧
        ∀ sv : Servo, sv ≠ e.servo → t.pwout sv = s.pwout sv) ∧
    ∀ sv : Servo, t.act sv = s.act sv ∨ (s.inputs.head? = some .reset ∧ t.act sv = 0#2) ∨
      ∃ w rest, s.inputs = .command w :: rest ∧ decode w = .ok (.bbEval (servoIndex sv)) ∧ t.act sv ≠ 0#2

/-- CRC_INIT, CRC_CHECK and SETR are idempotent: done once they add their outcome to the history and no event, and done again they
add the same outcome again and change nothing else; only a SETR of no writable register has another outcome than Ok (R47). -/
def Obligations.OtherCommandsAreIdempotent : Prop :=
  ∀ (i : Instr) (s : State), (i = .crcInit ∨ (∃ f, i = .crcCheck f) ∨ ∃ r v, i = .setr r v) →
    ∃ (t : State) (o : Obs), (o = .ok ∨ (o = .fault .badIndex ∧ i.wellFormed = false)) ∧
      exec i s = .next t ∧ t.history = s.history ++ [o] ∧ exec i t = .next { t with history := t.history ++ [o] }

/-- A feedback sample written between BB_EVAL and BB_HOLD is the one BB_HOLD uses (R93); without one BB_HOLD holds the
pre-drive position (R145). Every command is Ok. -/
def Obligations.ResampleReachesTheHold : Prop :=
  ∀ (s : State) (sv : Servo), EvalReady s sv →
    (∀ g : Half, g.toNat ≤ 100 →
      ∃ t : State, runCommands [.bbEval (servoIndex sv), setReg (.fb sv) g, .bbHold (servoIndex sv)] s = .next t ∧
        t.outcomes = s.outcomes ++ [none, none, none] ∧ t.err = s.err ∧
        (t.pwout sv).toNat = (s.operand (.pwmin sv)).toNat +
          g.toNat * ((s.operand (.pwmax sv)).toNat - (s.operand (.pwmin sv)).toNat) / 100) ∧
    ∃ t : State, runCommands [.bbEval (servoIndex sv), .bbHold (servoIndex sv)] s = .next t ∧
      t.outcomes = s.outcomes ++ [none, none] ∧ t.err = s.err ∧
      (t.pwout sv).toNat = (s.operand (.pwmin sv)).toNat +
        (s.operand (.fb sv)).toNat * ((s.operand (.pwmax sv)).toNat - (s.operand (.pwmin sv)).toNat) / 100

/-- A control tick on a calibrated block with feedback on the scale: every command is Ok, and the new events are the drives,
servo 0 before servo 1, one for each servo outside tolerance, then the two holds
(R71, R111). -/
def Obligations.TickEmitsDrivesThenHolds : Prop :=
  ∀ (s : State) (t0 t1 tol f0 f1 g0 g1 : Half), Calibrated s →
    f0.toNat ≤ 100 → f1.toNat ≤ 100 → g0.toNat ≤ 100 → g1.toNat ≤ 100 →
    bbTick t0 t1 tol f0 f1 g0 g1 =
      [.setr 0x4#4 t0, .setr 0x5#4 t1, .setr 0x8#4 tol, .setr 0x6#4 f0, .setr 0x7#4 f1, .bbEval 0#4, .bbEval 1#4,
        .setr 0x6#4 g0, .setr 0x7#4 g1, .bbHold 0#4, .bbHold 1#4] ∧
    ∃ (t : State) (d0 d1 h0 h1 : Half), runCommands (bbTick t0 t1 tol f0 f1 g0 g1) s = .next t ∧
      t.outcomes = s.outcomes ++ List.replicate 11 none ∧
      t.events = s.events ++
        (if (t0.toInt - f0.toNat).natAbs > tol.toNat then [⟨.servo0, d0⟩] else []) ++
        (if (t1.toInt - f1.toNat).natAbs > tol.toNat then [⟨.servo1, d1⟩] else []) ++
        [⟨.servo0, h0⟩, ⟨.servo1, h1⟩] ∧
      (d0 = if (f0.toNat : Int) < t0.toInt then s.pwmin0 else s.pwmax0) ∧
      (d1 = if (f1.toNat : Int) < t1.toInt then s.pwmin1 else s.pwmax1) ∧
      h0.toNat = s.pwmin0.toNat + g0.toNat * (s.pwmax0.toNat - s.pwmin0.toNat) / 100 ∧
      h1.toNat = s.pwmin1.toNat + g1.toNat * (s.pwmax1.toNat - s.pwmin1.toNat) / 100 ∧ t.err = s.err

/-! ## Reset and boot (70_reset_and_hazards.md) -/

/-- A reset event, in any state, sets every piece of state to R137's value, emits nothing and takes back no event. -/
def Obligations.ResetClearsEveryRegister : Prop :=
  ∀ (s : State) (rest : List PortInput), s.inputs = .reset :: rest →
    ∃ t : State, step s = .next t ∧ t.crc = 0#15 ∧ t.matched = false ∧ t.err = 0#4 ∧
      (∀ q : OpReg, t.operand q = 0#16) ∧ t.valid = 0#9 ∧ (∀ sv : Servo, t.pwout sv = 0#16 ∧ t.act sv = 0#2) ∧
      t.crcStream = [] ∧ t.events = s.events

/-- The state right after reset is a clean entry (R157), with every piece of state at R137's value. -/
def Obligations.ResetStateIsACleanEntry : Prop :=
  CleanEntry State.reset ∧ State.reset.matched = false ∧ (∀ q : OpReg, State.reset.operand q = 0#16) ∧
    (∀ sv : Servo, State.reset.pwout sv = 0#16 ∧ State.reset.act sv = 0#2) ∧ State.reset.events = []

/-- BB_LOADCAL is four SETR commands; with ranges that are in order it makes the block calibrated, from any state (R70). -/
def Obligations.LoadcalCalibrates : Prop :=
  ∀ (s : State) (min0 max0 min1 max1 : Half), min0.toNat < max0.toNat → min1.toNat < max1.toNat →
    bbLoadcal min0 max0 min1 max1 = [.setr 0x9#4 min0, .setr 0xA#4 max0, .setr 0xB#4 min1, .setr 0xC#4 max1] ∧
    ∃ t : State, runCommands (bbLoadcal min0 max0 min1 max1) s = .next t ∧ Calibrated t ∧
      t.history = s.history ++ List.replicate 4 .ok ∧
      t.operand (.pwmin .servo0) = min0 ∧ t.operand (.pwmax .servo0) = max0 ∧
      t.operand (.pwmin .servo1) = min1 ∧ t.operand (.pwmax .servo1) = max1

/-! ## Invariants -/

/-- At reset every invariant holds. -/
def Obligations.ResetMeetsTheInvariants : Prop :=
  CrcTracksStream State.reset ∧ ErrIsFirstFault State.reset ∧ PwoutIsLastEmitted State.reset ∧
    UnwrittenOperandsAreZero State.reset ∧ DecisionNeedsOperands State.reset

/-- Every step keeps `crc` the checksum of the CRC input byte stream (R37, R80). -/
def Obligations.StepKeepsCrcTheChecksumOfItsStream : Prop :=
  ∀ s t : State, CrcTracksStream s → step s = .next t → CrcTracksStream t

/-- Every step keeps `ERR` the code of the first fault since reset (R21, R122). -/
def Obligations.StepKeepsErrTheFirstFault : Prop :=
  ∀ s t : State, ErrIsFirstFault s → step s = .next t → ErrIsFirstFault t

/-- Every step keeps `PWOUT<s>` the width last emitted to the servo since reset (R27). -/
def Obligations.StepKeepsPwoutTheLastEmittedWidth : Prop :=
  ∀ s t : State, PwoutIsLastEmitted s → step s = .next t → PwoutIsLastEmitted t

/-- Every step keeps unwritten operands at their reset value, and a recorded decision's operands written (R20, R26, R138). -/
def Obligations.StepKeepsValidMeaningful : Prop :=
  ∀ s t : State, UnwrittenOperandsAreZero s → DecisionNeedsOperands s → step s = .next t →
    UnwrittenOperandsAreZero t ∧ DecisionNeedsOperands t
end

