-- ==== Sys2Proof/Laws/Crc.lean ====
section
/-! SUPPORT. The small lemmas of the CRC functions. -/

namespace Sys2Proof.Machine

/-- The byte step as its seven bit steps (R76). -/
theorem crc15Step_eq_bits (c : CrcWord) (x : Byte) :
    crc15Step c x =
      crcBit (crcBit (crcBit (crcBit (crcBit (crcBit (crcBit c (x.getLsbD 0)) (x.getLsbD 1)) (x.getLsbD 2)) (x.getLsbD 3))
        (x.getLsbD 4)) (x.getLsbD 5)) (x.getLsbD 6) := rfl

@[simp] theorem crc15From_nil (c : CrcWord) : crc15From c [] = c := rfl

@[simp] theorem crc15From_cons (c : CrcWord) (x : Byte) (bs : List Byte) :
    crc15From c (x :: bs) = crc15From (crc15Step c x) bs := rfl

@[simp] theorem crc15From_append_one (c : CrcWord) (bs : List Byte) (x : Byte) :
    crc15From c (bs ++ [x]) = crc15Step (crc15From c bs) x := by
  simp [crc15From]

/-- The lowest bit after a bit step is the feedback, for 0x4599 has bit 0 set (R74, R75). -/
theorem crcBit_getLsbD_zero (c : CrcWord) (b : Bool) : (crcBit c b).getLsbD 0 = (b ^^ c.getLsbD 14) := by
  unfold crcBit
  cases b ^^ c.getLsbD 14 <;> simp [show Config.crcPoly[0] = true from by decide]

end Sys2Proof.Machine
end

