-- ==== Sys2Proof/Laws/Fields.lean ====
section
/-! SUPPORT. The fields of a word made of fields, and a word made of its own fields (30_encoding.md R54). -/

namespace Sys2Proof

/-- A 16-bit value made of two bytes, bit by bit. -/
theorem halfOfBytes_getLsbD (hi lo : Byte) (k : Nat) :
    (hi ++ lo : Half).getLsbD k = if k < 8 then lo.getLsbD k else hi.getLsbD (k - 8) := BitVec.getLsbD_append

/-- A word of format C, bit by bit. -/
theorem wordOfFields_getLsbD (op : BitVec 4) (r : RegIdx) (z : BitVec 8) (imm : Half) (k : Nat) :
    (wordOfFields op r z imm).getLsbD k =
      if k < 16 then imm.getLsbD k else if k < 24 then z.getLsbD (k - 16)
      else if k < 28 then r.getLsbD (k - 24) else op.getLsbD (k - 28) := by
  have h : (wordOfFields op r z imm).getLsbD k =
      if k < 16 then imm.getLsbD k else if k - 16 < 8 then z.getLsbD (k - 16)
      else if k - 16 - 8 < 4 then r.getLsbD (k - 16 - 8) else op.getLsbD (k - 16 - 8 - 4) := by
    change (op ++ r ++ z ++ imm : BitVec (4 + 4 + 8 + 16)).getLsbD k = _
    rw [BitVec.getLsbD_append, BitVec.getLsbD_append, BitVec.getLsbD_append]
  rw [h]
  by_cases h1 : k < 16
  · rw [if_pos h1, if_pos h1]
  by_cases h2 : k < 24
  · rw [if_neg h1, if_neg h1, if_pos h2, if_pos (by omega)]
  by_cases h3 : k < 28
  · rw [if_neg h1, if_neg h1, if_neg h2, if_neg (by omega), if_pos h3, if_pos (by omega), Nat.sub_sub]
  · rw [if_neg h1, if_neg h1, if_neg h2, if_neg (by omega), if_neg h3, if_neg (by omega), Nat.sub_sub, Nat.sub_sub]

theorem opField_wordOfFields (op : BitVec 4) (r : RegIdx) (z : BitVec 8) (imm : Half) :
    opField (wordOfFields op r z imm) = op := by
  refine BitVec.eq_of_getLsbD_eq fun k hk => ?_
  rw [opField, BitVec.getLsbD_extractLsb', wordOfFields_getLsbD, if_neg (by omega), if_neg (by omega), if_neg (by omega)]
  simp [hk]

theorem rField_wordOfFields (op : BitVec 4) (r : RegIdx) (z : BitVec 8) (imm : Half) :
    rField (wordOfFields op r z imm) = r := by
  refine BitVec.eq_of_getLsbD_eq fun k hk => ?_
  rw [rField, BitVec.getLsbD_extractLsb', wordOfFields_getLsbD, if_neg (by omega), if_neg (by omega), if_pos (by omega)]
  simp [hk]

theorem zField_wordOfFields (op : BitVec 4) (r : RegIdx) (z : BitVec 8) (imm : Half) :
    zField (wordOfFields op r z imm) = z := by
  refine BitVec.eq_of_getLsbD_eq fun k hk => ?_
  rw [zField, BitVec.getLsbD_extractLsb', wordOfFields_getLsbD, if_neg (by omega), if_pos (by omega)]
  simp [hk]

theorem immField_wordOfFields (op : BitVec 4) (r : RegIdx) (z : BitVec 8) (imm : Half) :
    immField (wordOfFields op r z imm) = imm := by
  refine BitVec.eq_of_getLsbD_eq fun k hk => ?_
  rw [immField, BitVec.getLsbD_extractLsb', wordOfFields_getLsbD, if_pos (by omega)]
  simp [hk]

/-- The upper byte of a two-byte immediate. -/
theorem immHigh_wordOfFields (op : BitVec 4) (r : RegIdx) (z : BitVec 8) (hi lo : Byte) :
    immHigh (wordOfFields op r z (hi ++ lo)) = hi := by
  refine BitVec.eq_of_getLsbD_eq fun k hk => ?_
  rw [immHigh, BitVec.getLsbD_extractLsb', wordOfFields_getLsbD, if_pos (by omega), halfOfBytes_getLsbD, if_neg (by omega)]
  simp [hk]

/-- The lower byte of a two-byte immediate. -/
theorem immLow_wordOfFields (op : BitVec 4) (r : RegIdx) (z : BitVec 8) (hi lo : Byte) :
    immLow (wordOfFields op r z (hi ++ lo)) = lo := by
  refine BitVec.eq_of_getLsbD_eq fun k hk => ?_
  rw [immLow, BitVec.getLsbD_extractLsb', wordOfFields_getLsbD, if_pos (by omega), halfOfBytes_getLsbD, if_pos (by omega)]
  simp [hk]

/-- A word is the word of its fields. -/
theorem wordOfFields_fields (w : Word) : wordOfFields (opField w) (rField w) (zField w) (immField w) = w := by
  refine BitVec.eq_of_getLsbD_eq fun k hk => ?_
  rw [wordOfFields_getLsbD]
  simp only [opField, rField, zField, immField, BitVec.getLsbD_extractLsb']
  by_cases h1 : k < 16
  · simp [h1]
  by_cases h2 : k < 24
  · simp [h1, h2, show 16 + (k - 16) = k from by omega, show k - 16 < 8 from by omega]
  by_cases h3 : k < 28
  · simp [h1, h2, h3, show 24 + (k - 24) = k from by omega, show k - 24 < 4 from by omega]
  · simp [h1, h2, h3, show 28 + (k - 28) = k from by omega, show k - 28 < 4 from by omega]

/-- The immediate is its two bytes. -/
theorem immHigh_append_immLow (w : Word) : (immHigh w ++ immLow w : Half) = immField w := by
  refine BitVec.eq_of_getLsbD_eq fun k hk => ?_
  rw [halfOfBytes_getLsbD]
  simp only [immHigh, immLow, immField, BitVec.getLsbD_extractLsb']
  by_cases h1 : k < 8
  · simp [h1, hk]
  · simp [h1, hk, show 8 + (k - 8) = k from by omega, show k - 8 < 8 from by omega]

/-! ## Decoding -/

theorem unlessReserved_eq_ok {bad : Bool} {i j : Instr} : unlessReserved bad i = .ok j ↔ bad = false ∧ i = j := by
  cases bad <;> simp [unlessReserved]

theorem unlessReserved_eq_error {bad : Bool} {i : Instr} {c : FaultCode} :
    unlessReserved bad i = .error c ↔ bad = true ∧ c = .reservedBits := by
  cases bad <;> simp [unlessReserved, eq_comm]

/-- The opcode field is one of the six, or it is 0 or above 6 (R55). -/
theorem opField_cases (w : Word) :
    opField w = 1#4 ∨ opField w = 2#4 ∨ opField w = 3#4 ∨ opField w = 4#4 ∨ opField w = 5#4 ∨ opField w = 6#4 ∨
      ((opField w).toNat = 0 ∨ 7 ≤ (opField w).toNat) := by
  generalize opField w = op
  revert op
  decide

/-- An opcode that is none of the six is illegal (R61). -/
theorem decode_illegal {w : Word} (h : (opField w).toNat = 0 ∨ 7 ≤ (opField w).toNat) : decode w = .error .illegalOpcode := by
  unfold decode
  split <;> first | omega | rfl

end Sys2Proof
end

