-- ==== Sys2Proof/Laws/State.lean ====
section
/-! SUPPORT. One lemma per field of State per named update, so that no proof unfolds an update; then the accessors. -/

namespace Sys2Proof.Machine

/-! ## markValid -/

@[simp] theorem State.markValid_crc (s : State) (r : OpReg) : (s.markValid r).crc = s.crc := rfl
@[simp] theorem State.markValid_matched (s : State) (r : OpReg) : (s.markValid r).matched = s.matched := rfl
@[simp] theorem State.markValid_err (s : State) (r : OpReg) : (s.markValid r).err = s.err := rfl
@[simp] theorem State.markValid_tgt0 (s : State) (r : OpReg) : (s.markValid r).tgt0 = s.tgt0 := rfl
@[simp] theorem State.markValid_tgt1 (s : State) (r : OpReg) : (s.markValid r).tgt1 = s.tgt1 := rfl
@[simp] theorem State.markValid_fb0 (s : State) (r : OpReg) : (s.markValid r).fb0 = s.fb0 := rfl
@[simp] theorem State.markValid_fb1 (s : State) (r : OpReg) : (s.markValid r).fb1 = s.fb1 := rfl
@[simp] theorem State.markValid_tol (s : State) (r : OpReg) : (s.markValid r).tol = s.tol := rfl
@[simp] theorem State.markValid_pwmin0 (s : State) (r : OpReg) : (s.markValid r).pwmin0 = s.pwmin0 := rfl
@[simp] theorem State.markValid_pwmax0 (s : State) (r : OpReg) : (s.markValid r).pwmax0 = s.pwmax0 := rfl
@[simp] theorem State.markValid_pwmin1 (s : State) (r : OpReg) : (s.markValid r).pwmin1 = s.pwmin1 := rfl
@[simp] theorem State.markValid_pwmax1 (s : State) (r : OpReg) : (s.markValid r).pwmax1 = s.pwmax1 := rfl
@[simp] theorem State.markValid_valid (s : State) (r : OpReg) : (s.markValid r).valid = s.valid ||| (1#9 <<< validBit r) := rfl
@[simp] theorem State.markValid_pwout0 (s : State) (r : OpReg) : (s.markValid r).pwout0 = s.pwout0 := rfl
@[simp] theorem State.markValid_pwout1 (s : State) (r : OpReg) : (s.markValid r).pwout1 = s.pwout1 := rfl
@[simp] theorem State.markValid_act0 (s : State) (r : OpReg) : (s.markValid r).act0 = s.act0 := rfl
@[simp] theorem State.markValid_act1 (s : State) (r : OpReg) : (s.markValid r).act1 = s.act1 := rfl
@[simp] theorem State.markValid_inputs (s : State) (r : OpReg) : (s.markValid r).inputs = s.inputs := rfl
@[simp] theorem State.markValid_crcStream (s : State) (r : OpReg) : (s.markValid r).crcStream = s.crcStream := rfl
@[simp] theorem State.markValid_history (s : State) (r : OpReg) : (s.markValid r).history = s.history := rfl

/-! ## setCrc -/

@[simp] theorem State.setCrc_crc (s : State) (c : CrcWord) (bs : List Byte) : (s.setCrc c bs).crc = c := rfl
@[simp] theorem State.setCrc_matched (s : State) (c : CrcWord) (bs : List Byte) : (s.setCrc c bs).matched = s.matched := rfl
@[simp] theorem State.setCrc_err (s : State) (c : CrcWord) (bs : List Byte) : (s.setCrc c bs).err = s.err := rfl
@[simp] theorem State.setCrc_tgt0 (s : State) (c : CrcWord) (bs : List Byte) : (s.setCrc c bs).tgt0 = s.tgt0 := rfl
@[simp] theorem State.setCrc_tgt1 (s : State) (c : CrcWord) (bs : List Byte) : (s.setCrc c bs).tgt1 = s.tgt1 := rfl
@[simp] theorem State.setCrc_fb0 (s : State) (c : CrcWord) (bs : List Byte) : (s.setCrc c bs).fb0 = s.fb0 := rfl
@[simp] theorem State.setCrc_fb1 (s : State) (c : CrcWord) (bs : List Byte) : (s.setCrc c bs).fb1 = s.fb1 := rfl
@[simp] theorem State.setCrc_tol (s : State) (c : CrcWord) (bs : List Byte) : (s.setCrc c bs).tol = s.tol := rfl
@[simp] theorem State.setCrc_pwmin0 (s : State) (c : CrcWord) (bs : List Byte) : (s.setCrc c bs).pwmin0 = s.pwmin0 := rfl
@[simp] theorem State.setCrc_pwmax0 (s : State) (c : CrcWord) (bs : List Byte) : (s.setCrc c bs).pwmax0 = s.pwmax0 := rfl
@[simp] theorem State.setCrc_pwmin1 (s : State) (c : CrcWord) (bs : List Byte) : (s.setCrc c bs).pwmin1 = s.pwmin1 := rfl
@[simp] theorem State.setCrc_pwmax1 (s : State) (c : CrcWord) (bs : List Byte) : (s.setCrc c bs).pwmax1 = s.pwmax1 := rfl
@[simp] theorem State.setCrc_valid (s : State) (c : CrcWord) (bs : List Byte) : (s.setCrc c bs).valid = s.valid := rfl
@[simp] theorem State.setCrc_pwout0 (s : State) (c : CrcWord) (bs : List Byte) : (s.setCrc c bs).pwout0 = s.pwout0 := rfl
@[simp] theorem State.setCrc_pwout1 (s : State) (c : CrcWord) (bs : List Byte) : (s.setCrc c bs).pwout1 = s.pwout1 := rfl
@[simp] theorem State.setCrc_act0 (s : State) (c : CrcWord) (bs : List Byte) : (s.setCrc c bs).act0 = s.act0 := rfl
@[simp] theorem State.setCrc_act1 (s : State) (c : CrcWord) (bs : List Byte) : (s.setCrc c bs).act1 = s.act1 := rfl
@[simp] theorem State.setCrc_inputs (s : State) (c : CrcWord) (bs : List Byte) : (s.setCrc c bs).inputs = s.inputs := rfl
@[simp] theorem State.setCrc_crcStream (s : State) (c : CrcWord) (bs : List Byte) : (s.setCrc c bs).crcStream = bs := rfl
@[simp] theorem State.setCrc_history (s : State) (c : CrcWord) (bs : List Byte) : (s.setCrc c bs).history = s.history := rfl

/-! ## setMatched -/

@[simp] theorem State.setMatched_crc (s : State) (b : Bool) : (s.setMatched b).crc = s.crc := rfl
@[simp] theorem State.setMatched_matched (s : State) (b : Bool) : (s.setMatched b).matched = b := rfl
@[simp] theorem State.setMatched_err (s : State) (b : Bool) : (s.setMatched b).err = s.err := rfl
@[simp] theorem State.setMatched_tgt0 (s : State) (b : Bool) : (s.setMatched b).tgt0 = s.tgt0 := rfl
@[simp] theorem State.setMatched_tgt1 (s : State) (b : Bool) : (s.setMatched b).tgt1 = s.tgt1 := rfl
@[simp] theorem State.setMatched_fb0 (s : State) (b : Bool) : (s.setMatched b).fb0 = s.fb0 := rfl
@[simp] theorem State.setMatched_fb1 (s : State) (b : Bool) : (s.setMatched b).fb1 = s.fb1 := rfl
@[simp] theorem State.setMatched_tol (s : State) (b : Bool) : (s.setMatched b).tol = s.tol := rfl
@[simp] theorem State.setMatched_pwmin0 (s : State) (b : Bool) : (s.setMatched b).pwmin0 = s.pwmin0 := rfl
@[simp] theorem State.setMatched_pwmax0 (s : State) (b : Bool) : (s.setMatched b).pwmax0 = s.pwmax0 := rfl
@[simp] theorem State.setMatched_pwmin1 (s : State) (b : Bool) : (s.setMatched b).pwmin1 = s.pwmin1 := rfl
@[simp] theorem State.setMatched_pwmax1 (s : State) (b : Bool) : (s.setMatched b).pwmax1 = s.pwmax1 := rfl
@[simp] theorem State.setMatched_valid (s : State) (b : Bool) : (s.setMatched b).valid = s.valid := rfl
@[simp] theorem State.setMatched_pwout0 (s : State) (b : Bool) : (s.setMatched b).pwout0 = s.pwout0 := rfl
@[simp] theorem State.setMatched_pwout1 (s : State) (b : Bool) : (s.setMatched b).pwout1 = s.pwout1 := rfl
@[simp] theorem State.setMatched_act0 (s : State) (b : Bool) : (s.setMatched b).act0 = s.act0 := rfl
@[simp] theorem State.setMatched_act1 (s : State) (b : Bool) : (s.setMatched b).act1 = s.act1 := rfl
@[simp] theorem State.setMatched_inputs (s : State) (b : Bool) : (s.setMatched b).inputs = s.inputs := rfl
@[simp] theorem State.setMatched_crcStream (s : State) (b : Bool) : (s.setMatched b).crcStream = s.crcStream := rfl
@[simp] theorem State.setMatched_history (s : State) (b : Bool) : (s.setMatched b).history = s.history := rfl

/-! ## record -/

@[simp] theorem State.record_crc (s : State) (o : Obs) : (s.record o).crc = s.crc := rfl
@[simp] theorem State.record_matched (s : State) (o : Obs) : (s.record o).matched = s.matched := rfl
@[simp] theorem State.record_err (s : State) (o : Obs) : (s.record o).err = s.err := rfl
@[simp] theorem State.record_tgt0 (s : State) (o : Obs) : (s.record o).tgt0 = s.tgt0 := rfl
@[simp] theorem State.record_tgt1 (s : State) (o : Obs) : (s.record o).tgt1 = s.tgt1 := rfl
@[simp] theorem State.record_fb0 (s : State) (o : Obs) : (s.record o).fb0 = s.fb0 := rfl
@[simp] theorem State.record_fb1 (s : State) (o : Obs) : (s.record o).fb1 = s.fb1 := rfl
@[simp] theorem State.record_tol (s : State) (o : Obs) : (s.record o).tol = s.tol := rfl
@[simp] theorem State.record_pwmin0 (s : State) (o : Obs) : (s.record o).pwmin0 = s.pwmin0 := rfl
@[simp] theorem State.record_pwmax0 (s : State) (o : Obs) : (s.record o).pwmax0 = s.pwmax0 := rfl
@[simp] theorem State.record_pwmin1 (s : State) (o : Obs) : (s.record o).pwmin1 = s.pwmin1 := rfl
@[simp] theorem State.record_pwmax1 (s : State) (o : Obs) : (s.record o).pwmax1 = s.pwmax1 := rfl
@[simp] theorem State.record_valid (s : State) (o : Obs) : (s.record o).valid = s.valid := rfl
@[simp] theorem State.record_pwout0 (s : State) (o : Obs) : (s.record o).pwout0 = s.pwout0 := rfl
@[simp] theorem State.record_pwout1 (s : State) (o : Obs) : (s.record o).pwout1 = s.pwout1 := rfl
@[simp] theorem State.record_act0 (s : State) (o : Obs) : (s.record o).act0 = s.act0 := rfl
@[simp] theorem State.record_act1 (s : State) (o : Obs) : (s.record o).act1 = s.act1 := rfl
@[simp] theorem State.record_inputs (s : State) (o : Obs) : (s.record o).inputs = s.inputs := rfl
@[simp] theorem State.record_crcStream (s : State) (o : Obs) : (s.record o).crcStream = s.crcStream := rfl
@[simp] theorem State.record_history (s : State) (o : Obs) : (s.record o).history = s.history ++ [o] := rfl

/-! ## raiseFault -/

@[simp] theorem raiseFault_crc (c : FaultCode) (s : State) : (raiseFault c s).crc = s.crc := rfl
@[simp] theorem raiseFault_matched (c : FaultCode) (s : State) : (raiseFault c s).matched = s.matched := rfl
@[simp] theorem raiseFault_err (c : FaultCode) (s : State) : (raiseFault c s).err = errAfter s.err c := rfl
@[simp] theorem raiseFault_tgt0 (c : FaultCode) (s : State) : (raiseFault c s).tgt0 = s.tgt0 := rfl
@[simp] theorem raiseFault_tgt1 (c : FaultCode) (s : State) : (raiseFault c s).tgt1 = s.tgt1 := rfl
@[simp] theorem raiseFault_fb0 (c : FaultCode) (s : State) : (raiseFault c s).fb0 = s.fb0 := rfl
@[simp] theorem raiseFault_fb1 (c : FaultCode) (s : State) : (raiseFault c s).fb1 = s.fb1 := rfl
@[simp] theorem raiseFault_tol (c : FaultCode) (s : State) : (raiseFault c s).tol = s.tol := rfl
@[simp] theorem raiseFault_pwmin0 (c : FaultCode) (s : State) : (raiseFault c s).pwmin0 = s.pwmin0 := rfl
@[simp] theorem raiseFault_pwmax0 (c : FaultCode) (s : State) : (raiseFault c s).pwmax0 = s.pwmax0 := rfl
@[simp] theorem raiseFault_pwmin1 (c : FaultCode) (s : State) : (raiseFault c s).pwmin1 = s.pwmin1 := rfl
@[simp] theorem raiseFault_pwmax1 (c : FaultCode) (s : State) : (raiseFault c s).pwmax1 = s.pwmax1 := rfl
@[simp] theorem raiseFault_valid (c : FaultCode) (s : State) : (raiseFault c s).valid = s.valid := rfl
@[simp] theorem raiseFault_pwout0 (c : FaultCode) (s : State) : (raiseFault c s).pwout0 = s.pwout0 := rfl
@[simp] theorem raiseFault_pwout1 (c : FaultCode) (s : State) : (raiseFault c s).pwout1 = s.pwout1 := rfl
@[simp] theorem raiseFault_act0 (c : FaultCode) (s : State) : (raiseFault c s).act0 = s.act0 := rfl
@[simp] theorem raiseFault_act1 (c : FaultCode) (s : State) : (raiseFault c s).act1 = s.act1 := rfl
@[simp] theorem raiseFault_inputs (c : FaultCode) (s : State) : (raiseFault c s).inputs = s.inputs := rfl
@[simp] theorem raiseFault_crcStream (c : FaultCode) (s : State) : (raiseFault c s).crcStream = s.crcStream := rfl
@[simp] theorem raiseFault_history (c : FaultCode) (s : State) : (raiseFault c s).history = s.history ++ [.fault c] := rfl

/-! ## present -/

@[simp] theorem State.present_crc (s : State) (ps : List PortInput) : (s.present ps).crc = s.crc := rfl
@[simp] theorem State.present_matched (s : State) (ps : List PortInput) : (s.present ps).matched = s.matched := rfl
@[simp] theorem State.present_err (s : State) (ps : List PortInput) : (s.present ps).err = s.err := rfl
@[simp] theorem State.present_tgt0 (s : State) (ps : List PortInput) : (s.present ps).tgt0 = s.tgt0 := rfl
@[simp] theorem State.present_tgt1 (s : State) (ps : List PortInput) : (s.present ps).tgt1 = s.tgt1 := rfl
@[simp] theorem State.present_fb0 (s : State) (ps : List PortInput) : (s.present ps).fb0 = s.fb0 := rfl
@[simp] theorem State.present_fb1 (s : State) (ps : List PortInput) : (s.present ps).fb1 = s.fb1 := rfl
@[simp] theorem State.present_tol (s : State) (ps : List PortInput) : (s.present ps).tol = s.tol := rfl
@[simp] theorem State.present_pwmin0 (s : State) (ps : List PortInput) : (s.present ps).pwmin0 = s.pwmin0 := rfl
@[simp] theorem State.present_pwmax0 (s : State) (ps : List PortInput) : (s.present ps).pwmax0 = s.pwmax0 := rfl
@[simp] theorem State.present_pwmin1 (s : State) (ps : List PortInput) : (s.present ps).pwmin1 = s.pwmin1 := rfl
@[simp] theorem State.present_pwmax1 (s : State) (ps : List PortInput) : (s.present ps).pwmax1 = s.pwmax1 := rfl
@[simp] theorem State.present_valid (s : State) (ps : List PortInput) : (s.present ps).valid = s.valid := rfl
@[simp] theorem State.present_pwout0 (s : State) (ps : List PortInput) : (s.present ps).pwout0 = s.pwout0 := rfl
@[simp] theorem State.present_pwout1 (s : State) (ps : List PortInput) : (s.present ps).pwout1 = s.pwout1 := rfl
@[simp] theorem State.present_act0 (s : State) (ps : List PortInput) : (s.present ps).act0 = s.act0 := rfl
@[simp] theorem State.present_act1 (s : State) (ps : List PortInput) : (s.present ps).act1 = s.act1 := rfl
@[simp] theorem State.present_inputs (s : State) (ps : List PortInput) : (s.present ps).inputs = s.inputs ++ ps := rfl
@[simp] theorem State.present_crcStream (s : State) (ps : List PortInput) : (s.present ps).crcStream = s.crcStream := rfl
@[simp] theorem State.present_history (s : State) (ps : List PortInput) : (s.present ps).history = s.history := rfl

/-! ## presentNext -/

@[simp] theorem State.presentNext_crc (s : State) (w : Word) : (s.presentNext w).crc = s.crc := rfl
@[simp] theorem State.presentNext_matched (s : State) (w : Word) : (s.presentNext w).matched = s.matched := rfl
@[simp] theorem State.presentNext_err (s : State) (w : Word) : (s.presentNext w).err = s.err := rfl
@[simp] theorem State.presentNext_tgt0 (s : State) (w : Word) : (s.presentNext w).tgt0 = s.tgt0 := rfl
@[simp] theorem State.presentNext_tgt1 (s : State) (w : Word) : (s.presentNext w).tgt1 = s.tgt1 := rfl
@[simp] theorem State.presentNext_fb0 (s : State) (w : Word) : (s.presentNext w).fb0 = s.fb0 := rfl
@[simp] theorem State.presentNext_fb1 (s : State) (w : Word) : (s.presentNext w).fb1 = s.fb1 := rfl
@[simp] theorem State.presentNext_tol (s : State) (w : Word) : (s.presentNext w).tol = s.tol := rfl
@[simp] theorem State.presentNext_pwmin0 (s : State) (w : Word) : (s.presentNext w).pwmin0 = s.pwmin0 := rfl
@[simp] theorem State.presentNext_pwmax0 (s : State) (w : Word) : (s.presentNext w).pwmax0 = s.pwmax0 := rfl
@[simp] theorem State.presentNext_pwmin1 (s : State) (w : Word) : (s.presentNext w).pwmin1 = s.pwmin1 := rfl
@[simp] theorem State.presentNext_pwmax1 (s : State) (w : Word) : (s.presentNext w).pwmax1 = s.pwmax1 := rfl
@[simp] theorem State.presentNext_valid (s : State) (w : Word) : (s.presentNext w).valid = s.valid := rfl
@[simp] theorem State.presentNext_pwout0 (s : State) (w : Word) : (s.presentNext w).pwout0 = s.pwout0 := rfl
@[simp] theorem State.presentNext_pwout1 (s : State) (w : Word) : (s.presentNext w).pwout1 = s.pwout1 := rfl
@[simp] theorem State.presentNext_act0 (s : State) (w : Word) : (s.presentNext w).act0 = s.act0 := rfl
@[simp] theorem State.presentNext_act1 (s : State) (w : Word) : (s.presentNext w).act1 = s.act1 := rfl
@[simp] theorem State.presentNext_inputs (s : State) (w : Word) : (s.presentNext w).inputs = .command w :: s.inputs := rfl
@[simp] theorem State.presentNext_crcStream (s : State) (w : Word) : (s.presentNext w).crcStream = s.crcStream := rfl
@[simp] theorem State.presentNext_history (s : State) (w : Word) : (s.presentNext w).history = s.history := rfl

/-! ## writeOperand -/

@[simp] theorem State.writeOperand_crc (s : State) (r : OpReg) (v : Half) : (s.writeOperand r v).crc = s.crc := by rcases r with _ | _ | _ | _ | _ <;> (try rename_i sv; cases sv) <;> rfl
@[simp] theorem State.writeOperand_matched (s : State) (r : OpReg) (v : Half) : (s.writeOperand r v).matched = s.matched := by rcases r with _ | _ | _ | _ | _ <;> (try rename_i sv; cases sv) <;> rfl
@[simp] theorem State.writeOperand_err (s : State) (r : OpReg) (v : Half) : (s.writeOperand r v).err = s.err := by rcases r with _ | _ | _ | _ | _ <;> (try rename_i sv; cases sv) <;> rfl
@[simp] theorem State.writeOperand_valid (s : State) (r : OpReg) (v : Half) : (s.writeOperand r v).valid = s.valid := by rcases r with _ | _ | _ | _ | _ <;> (try rename_i sv; cases sv) <;> rfl
@[simp] theorem State.writeOperand_pwout0 (s : State) (r : OpReg) (v : Half) : (s.writeOperand r v).pwout0 = s.pwout0 := by rcases r with _ | _ | _ | _ | _ <;> (try rename_i sv; cases sv) <;> rfl
@[simp] theorem State.writeOperand_pwout1 (s : State) (r : OpReg) (v : Half) : (s.writeOperand r v).pwout1 = s.pwout1 := by rcases r with _ | _ | _ | _ | _ <;> (try rename_i sv; cases sv) <;> rfl
@[simp] theorem State.writeOperand_act0 (s : State) (r : OpReg) (v : Half) : (s.writeOperand r v).act0 = s.act0 := by rcases r with _ | _ | _ | _ | _ <;> (try rename_i sv; cases sv) <;> rfl
@[simp] theorem State.writeOperand_act1 (s : State) (r : OpReg) (v : Half) : (s.writeOperand r v).act1 = s.act1 := by rcases r with _ | _ | _ | _ | _ <;> (try rename_i sv; cases sv) <;> rfl
@[simp] theorem State.writeOperand_inputs (s : State) (r : OpReg) (v : Half) : (s.writeOperand r v).inputs = s.inputs := by rcases r with _ | _ | _ | _ | _ <;> (try rename_i sv; cases sv) <;> rfl
@[simp] theorem State.writeOperand_crcStream (s : State) (r : OpReg) (v : Half) : (s.writeOperand r v).crcStream = s.crcStream := by rcases r with _ | _ | _ | _ | _ <;> (try rename_i sv; cases sv) <;> rfl
@[simp] theorem State.writeOperand_history (s : State) (r : OpReg) (v : Half) : (s.writeOperand r v).history = s.history := by rcases r with _ | _ | _ | _ | _ <;> (try rename_i sv; cases sv) <;> rfl

/-! ## setPwout -/

@[simp] theorem State.setPwout_crc (s : State) (sv : Servo) (v : Half) : (s.setPwout sv v).crc = s.crc := by cases sv <;> rfl
@[simp] theorem State.setPwout_matched (s : State) (sv : Servo) (v : Half) : (s.setPwout sv v).matched = s.matched := by cases sv <;> rfl
@[simp] theorem State.setPwout_err (s : State) (sv : Servo) (v : Half) : (s.setPwout sv v).err = s.err := by cases sv <;> rfl
@[simp] theorem State.setPwout_tgt0 (s : State) (sv : Servo) (v : Half) : (s.setPwout sv v).tgt0 = s.tgt0 := by cases sv <;> rfl
@[simp] theorem State.setPwout_tgt1 (s : State) (sv : Servo) (v : Half) : (s.setPwout sv v).tgt1 = s.tgt1 := by cases sv <;> rfl
@[simp] theorem State.setPwout_fb0 (s : State) (sv : Servo) (v : Half) : (s.setPwout sv v).fb0 = s.fb0 := by cases sv <;> rfl
@[simp] theorem State.setPwout_fb1 (s : State) (sv : Servo) (v : Half) : (s.setPwout sv v).fb1 = s.fb1 := by cases sv <;> rfl
@[simp] theorem State.setPwout_tol (s : State) (sv : Servo) (v : Half) : (s.setPwout sv v).tol = s.tol := by cases sv <;> rfl
@[simp] theorem State.setPwout_pwmin0 (s : State) (sv : Servo) (v : Half) : (s.setPwout sv v).pwmin0 = s.pwmin0 := by cases sv <;> rfl
@[simp] theorem State.setPwout_pwmax0 (s : State) (sv : Servo) (v : Half) : (s.setPwout sv v).pwmax0 = s.pwmax0 := by cases sv <;> rfl
@[simp] theorem State.setPwout_pwmin1 (s : State) (sv : Servo) (v : Half) : (s.setPwout sv v).pwmin1 = s.pwmin1 := by cases sv <;> rfl
@[simp] theorem State.setPwout_pwmax1 (s : State) (sv : Servo) (v : Half) : (s.setPwout sv v).pwmax1 = s.pwmax1 := by cases sv <;> rfl
@[simp] theorem State.setPwout_valid (s : State) (sv : Servo) (v : Half) : (s.setPwout sv v).valid = s.valid := by cases sv <;> rfl
@[simp] theorem State.setPwout_act0 (s : State) (sv : Servo) (v : Half) : (s.setPwout sv v).act0 = s.act0 := by cases sv <;> rfl
@[simp] theorem State.setPwout_act1 (s : State) (sv : Servo) (v : Half) : (s.setPwout sv v).act1 = s.act1 := by cases sv <;> rfl
@[simp] theorem State.setPwout_inputs (s : State) (sv : Servo) (v : Half) : (s.setPwout sv v).inputs = s.inputs := by cases sv <;> rfl
@[simp] theorem State.setPwout_crcStream (s : State) (sv : Servo) (v : Half) : (s.setPwout sv v).crcStream = s.crcStream := by cases sv <;> rfl
@[simp] theorem State.setPwout_history (s : State) (sv : Servo) (v : Half) : (s.setPwout sv v).history = s.history := by cases sv <;> rfl

/-! ## setAct -/

@[simp] theorem State.setAct_crc (s : State) (sv : Servo) (a : BitVec 2) : (s.setAct sv a).crc = s.crc := by cases sv <;> rfl
@[simp] theorem State.setAct_matched (s : State) (sv : Servo) (a : BitVec 2) : (s.setAct sv a).matched = s.matched := by cases sv <;> rfl
@[simp] theorem State.setAct_err (s : State) (sv : Servo) (a : BitVec 2) : (s.setAct sv a).err = s.err := by cases sv <;> rfl
@[simp] theorem State.setAct_tgt0 (s : State) (sv : Servo) (a : BitVec 2) : (s.setAct sv a).tgt0 = s.tgt0 := by cases sv <;> rfl
@[simp] theorem State.setAct_tgt1 (s : State) (sv : Servo) (a : BitVec 2) : (s.setAct sv a).tgt1 = s.tgt1 := by cases sv <;> rfl
@[simp] theorem State.setAct_fb0 (s : State) (sv : Servo) (a : BitVec 2) : (s.setAct sv a).fb0 = s.fb0 := by cases sv <;> rfl
@[simp] theorem State.setAct_fb1 (s : State) (sv : Servo) (a : BitVec 2) : (s.setAct sv a).fb1 = s.fb1 := by cases sv <;> rfl
@[simp] theorem State.setAct_tol (s : State) (sv : Servo) (a : BitVec 2) : (s.setAct sv a).tol = s.tol := by cases sv <;> rfl
@[simp] theorem State.setAct_pwmin0 (s : State) (sv : Servo) (a : BitVec 2) : (s.setAct sv a).pwmin0 = s.pwmin0 := by cases sv <;> rfl
@[simp] theorem State.setAct_pwmax0 (s : State) (sv : Servo) (a : BitVec 2) : (s.setAct sv a).pwmax0 = s.pwmax0 := by cases sv <;> rfl
@[simp] theorem State.setAct_pwmin1 (s : State) (sv : Servo) (a : BitVec 2) : (s.setAct sv a).pwmin1 = s.pwmin1 := by cases sv <;> rfl
@[simp] theorem State.setAct_pwmax1 (s : State) (sv : Servo) (a : BitVec 2) : (s.setAct sv a).pwmax1 = s.pwmax1 := by cases sv <;> rfl
@[simp] theorem State.setAct_valid (s : State) (sv : Servo) (a : BitVec 2) : (s.setAct sv a).valid = s.valid := by cases sv <;> rfl
@[simp] theorem State.setAct_pwout0 (s : State) (sv : Servo) (a : BitVec 2) : (s.setAct sv a).pwout0 = s.pwout0 := by cases sv <;> rfl
@[simp] theorem State.setAct_pwout1 (s : State) (sv : Servo) (a : BitVec 2) : (s.setAct sv a).pwout1 = s.pwout1 := by cases sv <;> rfl
@[simp] theorem State.setAct_inputs (s : State) (sv : Servo) (a : BitVec 2) : (s.setAct sv a).inputs = s.inputs := by cases sv <;> rfl
@[simp] theorem State.setAct_crcStream (s : State) (sv : Servo) (a : BitVec 2) : (s.setAct sv a).crcStream = s.crcStream := by cases sv <;> rfl
@[simp] theorem State.setAct_history (s : State) (sv : Servo) (a : BitVec 2) : (s.setAct sv a).history = s.history := by cases sv <;> rfl

/-! ## emitAct -/

@[simp] theorem emitAct_crc (s : State) (sv : Servo) (v : Half) : (emitAct s sv v).crc = s.crc := by cases sv <;> rfl
@[simp] theorem emitAct_matched (s : State) (sv : Servo) (v : Half) : (emitAct s sv v).matched = s.matched := by cases sv <;> rfl
@[simp] theorem emitAct_err (s : State) (sv : Servo) (v : Half) : (emitAct s sv v).err = s.err := by cases sv <;> rfl
@[simp] theorem emitAct_tgt0 (s : State) (sv : Servo) (v : Half) : (emitAct s sv v).tgt0 = s.tgt0 := by cases sv <;> rfl
@[simp] theorem emitAct_tgt1 (s : State) (sv : Servo) (v : Half) : (emitAct s sv v).tgt1 = s.tgt1 := by cases sv <;> rfl
@[simp] theorem emitAct_fb0 (s : State) (sv : Servo) (v : Half) : (emitAct s sv v).fb0 = s.fb0 := by cases sv <;> rfl
@[simp] theorem emitAct_fb1 (s : State) (sv : Servo) (v : Half) : (emitAct s sv v).fb1 = s.fb1 := by cases sv <;> rfl
@[simp] theorem emitAct_tol (s : State) (sv : Servo) (v : Half) : (emitAct s sv v).tol = s.tol := by cases sv <;> rfl
@[simp] theorem emitAct_pwmin0 (s : State) (sv : Servo) (v : Half) : (emitAct s sv v).pwmin0 = s.pwmin0 := by cases sv <;> rfl
@[simp] theorem emitAct_pwmax0 (s : State) (sv : Servo) (v : Half) : (emitAct s sv v).pwmax0 = s.pwmax0 := by cases sv <;> rfl
@[simp] theorem emitAct_pwmin1 (s : State) (sv : Servo) (v : Half) : (emitAct s sv v).pwmin1 = s.pwmin1 := by cases sv <;> rfl
@[simp] theorem emitAct_pwmax1 (s : State) (sv : Servo) (v : Half) : (emitAct s sv v).pwmax1 = s.pwmax1 := by cases sv <;> rfl
@[simp] theorem emitAct_valid (s : State) (sv : Servo) (v : Half) : (emitAct s sv v).valid = s.valid := by cases sv <;> rfl
@[simp] theorem emitAct_act0 (s : State) (sv : Servo) (v : Half) : (emitAct s sv v).act0 = s.act0 := by cases sv <;> rfl
@[simp] theorem emitAct_act1 (s : State) (sv : Servo) (v : Half) : (emitAct s sv v).act1 = s.act1 := by cases sv <;> rfl
@[simp] theorem emitAct_inputs (s : State) (sv : Servo) (v : Half) : (emitAct s sv v).inputs = s.inputs := by cases sv <;> rfl
@[simp] theorem emitAct_crcStream (s : State) (sv : Servo) (v : Half) : (emitAct s sv v).crcStream = s.crcStream := by cases sv <;> rfl
@[simp] theorem emitAct_history (s : State) (sv : Servo) (v : Half) : (emitAct s sv v).history = s.history ++ [.act ⟨sv, v⟩] := by cases sv <;> rfl

/-! ## resetEvent -/

@[simp] theorem resetEvent_crc (s : State) : (resetEvent s).crc = 0#15 := rfl
@[simp] theorem resetEvent_matched (s : State) : (resetEvent s).matched = false := rfl
@[simp] theorem resetEvent_err (s : State) : (resetEvent s).err = 0#4 := rfl
@[simp] theorem resetEvent_tgt0 (s : State) : (resetEvent s).tgt0 = 0#16 := rfl
@[simp] theorem resetEvent_tgt1 (s : State) : (resetEvent s).tgt1 = 0#16 := rfl
@[simp] theorem resetEvent_fb0 (s : State) : (resetEvent s).fb0 = 0#16 := rfl
@[simp] theorem resetEvent_fb1 (s : State) : (resetEvent s).fb1 = 0#16 := rfl
@[simp] theorem resetEvent_tol (s : State) : (resetEvent s).tol = 0#16 := rfl
@[simp] theorem resetEvent_pwmin0 (s : State) : (resetEvent s).pwmin0 = 0#16 := rfl
@[simp] theorem resetEvent_pwmax0 (s : State) : (resetEvent s).pwmax0 = 0#16 := rfl
@[simp] theorem resetEvent_pwmin1 (s : State) : (resetEvent s).pwmin1 = 0#16 := rfl
@[simp] theorem resetEvent_pwmax1 (s : State) : (resetEvent s).pwmax1 = 0#16 := rfl
@[simp] theorem resetEvent_valid (s : State) : (resetEvent s).valid = 0#9 := rfl
@[simp] theorem resetEvent_pwout0 (s : State) : (resetEvent s).pwout0 = 0#16 := rfl
@[simp] theorem resetEvent_pwout1 (s : State) : (resetEvent s).pwout1 = 0#16 := rfl
@[simp] theorem resetEvent_act0 (s : State) : (resetEvent s).act0 = 0#2 := rfl
@[simp] theorem resetEvent_act1 (s : State) : (resetEvent s).act1 = 0#2 := rfl
@[simp] theorem resetEvent_inputs (s : State) : (resetEvent s).inputs = s.inputs := rfl
@[simp] theorem resetEvent_crcStream (s : State) : (resetEvent s).crcStream = [] := rfl
@[simp] theorem resetEvent_history (s : State) : (resetEvent s).history = s.history ++ [.reset] := rfl

/-! ## readPort -/

@[simp] theorem readPort_crc (idx : RegIdx) (s : State) : (readPort idx s).crc = s.crc := rfl
@[simp] theorem readPort_matched (idx : RegIdx) (s : State) : (readPort idx s).matched = s.matched := rfl
@[simp] theorem readPort_err (idx : RegIdx) (s : State) : (readPort idx s).err = s.err := rfl
@[simp] theorem readPort_tgt0 (idx : RegIdx) (s : State) : (readPort idx s).tgt0 = s.tgt0 := rfl
@[simp] theorem readPort_tgt1 (idx : RegIdx) (s : State) : (readPort idx s).tgt1 = s.tgt1 := rfl
@[simp] theorem readPort_fb0 (idx : RegIdx) (s : State) : (readPort idx s).fb0 = s.fb0 := rfl
@[simp] theorem readPort_fb1 (idx : RegIdx) (s : State) : (readPort idx s).fb1 = s.fb1 := rfl
@[simp] theorem readPort_tol (idx : RegIdx) (s : State) : (readPort idx s).tol = s.tol := rfl
@[simp] theorem readPort_pwmin0 (idx : RegIdx) (s : State) : (readPort idx s).pwmin0 = s.pwmin0 := rfl
@[simp] theorem readPort_pwmax0 (idx : RegIdx) (s : State) : (readPort idx s).pwmax0 = s.pwmax0 := rfl
@[simp] theorem readPort_pwmin1 (idx : RegIdx) (s : State) : (readPort idx s).pwmin1 = s.pwmin1 := rfl
@[simp] theorem readPort_pwmax1 (idx : RegIdx) (s : State) : (readPort idx s).pwmax1 = s.pwmax1 := rfl
@[simp] theorem readPort_valid (idx : RegIdx) (s : State) : (readPort idx s).valid = s.valid := rfl
@[simp] theorem readPort_pwout0 (idx : RegIdx) (s : State) : (readPort idx s).pwout0 = s.pwout0 := rfl
@[simp] theorem readPort_pwout1 (idx : RegIdx) (s : State) : (readPort idx s).pwout1 = s.pwout1 := rfl
@[simp] theorem readPort_act0 (idx : RegIdx) (s : State) : (readPort idx s).act0 = s.act0 := rfl
@[simp] theorem readPort_act1 (idx : RegIdx) (s : State) : (readPort idx s).act1 = s.act1 := rfl
@[simp] theorem readPort_inputs (idx : RegIdx) (s : State) : (readPort idx s).inputs = s.inputs := rfl
@[simp] theorem readPort_crcStream (idx : RegIdx) (s : State) : (readPort idx s).crcStream = s.crcStream := rfl
@[simp] theorem readPort_history (idx : RegIdx) (s : State) : (readPort idx s).history = s.history ++ [.readOut idx (rd s idx)] := rfl

/-! ## Accessors of a servo's and an operand register's fields -/

theorem State.operand_writeOperand (s : State) (r r' : OpReg) (v : Half) :
    (s.writeOperand r v).operand r' = if r' = r then v else s.operand r' := by
  rcases r with (_ | _) | (_ | _) | _ | (_ | _) | (_ | _) <;> rcases r' with (_ | _) | (_ | _) | _ | (_ | _) | (_ | _) <;> rfl

@[simp] theorem State.operand_writeOperand_self (s : State) (r : OpReg) (v : Half) : (s.writeOperand r v).operand r = v := by
  simp [State.operand_writeOperand]

@[simp] theorem State.pwout_setPwout_self (s : State) (sv : Servo) (v : Half) : (s.setPwout sv v).pwout sv = v := by
  cases sv <;> rfl

theorem State.pwout_setPwout (s : State) (sv sv' : Servo) (v : Half) :
    (s.setPwout sv v).pwout sv' = if sv' = sv then v else s.pwout sv' := by
  cases sv <;> cases sv' <;> rfl

@[simp] theorem State.act_setAct_self (s : State) (sv : Servo) (a : BitVec 2) : (s.setAct sv a).act sv = a := by
  cases sv <;> rfl

theorem State.act_setAct (s : State) (sv sv' : Servo) (a : BitVec 2) :
    (s.setAct sv a).act sv' = if sv' = sv then a else s.act sv' := by
  cases sv <;> cases sv' <;> rfl

/-- Two states that agree on the nine operand fields agree on every operand register. -/
theorem State.operand_congr {s t : State} (h0 : t.tgt0 = s.tgt0) (h1 : t.tgt1 = s.tgt1) (h2 : t.fb0 = s.fb0) (h3 : t.fb1 = s.fb1)
    (h4 : t.tol = s.tol) (h5 : t.pwmin0 = s.pwmin0) (h6 : t.pwmax0 = s.pwmax0) (h7 : t.pwmin1 = s.pwmin1)
    (h8 : t.pwmax1 = s.pwmax1) (r : OpReg) : t.operand r = s.operand r := by
  rcases r with (_ | _) | (_ | _) | _ | (_ | _) | (_ | _) <;> assumption

/-- Two states with the same VALID agree on every register's validity. -/
theorem State.isValid_congr {s t : State} (h : t.valid = s.valid) (r : OpReg) : t.isValid r = s.isValid r := by
  simp [State.isValid, h]

@[simp] theorem State.setCrc_operand (s : State) (c : CrcWord) (bs : List Byte) (r : OpReg) : (s.setCrc c bs).operand r = s.operand r :=
  State.operand_congr (by simp) (by simp) (by simp) (by simp) (by simp) (by simp) (by simp) (by simp) (by simp) r

@[simp] theorem State.setCrc_isValid (s : State) (c : CrcWord) (bs : List Byte) (r : OpReg) : (s.setCrc c bs).isValid r = s.isValid r :=
  State.isValid_congr (by simp) r

@[simp] theorem State.setCrc_pwout (s : State) (c : CrcWord) (bs : List Byte) (sw : Servo) : (s.setCrc c bs).pwout sw = s.pwout sw := by
  cases sw <;> simp [State.pwout]

@[simp] theorem State.setCrc_act (s : State) (c : CrcWord) (bs : List Byte) (sw : Servo) : (s.setCrc c bs).act sw = s.act sw := by
  cases sw <;> simp [State.act]

@[simp] theorem State.setMatched_operand (s : State) (b : Bool) (r : OpReg) : (s.setMatched b).operand r = s.operand r :=
  State.operand_congr (by simp) (by simp) (by simp) (by simp) (by simp) (by simp) (by simp) (by simp) (by simp) r

@[simp] theorem State.setMatched_isValid (s : State) (b : Bool) (r : OpReg) : (s.setMatched b).isValid r = s.isValid r :=
  State.isValid_congr (by simp) r

@[simp] theorem State.setMatched_pwout (s : State) (b : Bool) (sw : Servo) : (s.setMatched b).pwout sw = s.pwout sw := by
  cases sw <;> simp [State.pwout]

@[simp] theorem State.setMatched_act (s : State) (b : Bool) (sw : Servo) : (s.setMatched b).act sw = s.act sw := by
  cases sw <;> simp [State.act]

@[simp] theorem State.record_operand (s : State) (o : Obs) (r : OpReg) : (s.record o).operand r = s.operand r :=
  State.operand_congr (by simp) (by simp) (by simp) (by simp) (by simp) (by simp) (by simp) (by simp) (by simp) r

@[simp] theorem State.record_isValid (s : State) (o : Obs) (r : OpReg) : (s.record o).isValid r = s.isValid r :=
  State.isValid_congr (by simp) r

@[simp] theorem State.record_pwout (s : State) (o : Obs) (sw : Servo) : (s.record o).pwout sw = s.pwout sw := by
  cases sw <;> simp [State.pwout]

@[simp] theorem State.record_act (s : State) (o : Obs) (sw : Servo) : (s.record o).act sw = s.act sw := by
  cases sw <;> simp [State.act]

@[simp] theorem raiseFault_operand (c : FaultCode) (s : State) (r : OpReg) : (raiseFault c s).operand r = s.operand r :=
  State.operand_congr (by simp) (by simp) (by simp) (by simp) (by simp) (by simp) (by simp) (by simp) (by simp) r

@[simp] theorem raiseFault_isValid (c : FaultCode) (s : State) (r : OpReg) : (raiseFault c s).isValid r = s.isValid r :=
  State.isValid_congr (by simp) r

@[simp] theorem raiseFault_pwout (c : FaultCode) (s : State) (sw : Servo) : (raiseFault c s).pwout sw = s.pwout sw := by
  cases sw <;> simp [State.pwout]

@[simp] theorem raiseFault_act (c : FaultCode) (s : State) (sw : Servo) : (raiseFault c s).act sw = s.act sw := by
  cases sw <;> simp [State.act]

@[simp] theorem State.markValid_operand (s : State) (q : OpReg) (r : OpReg) : (s.markValid q).operand r = s.operand r :=
  State.operand_congr (by simp) (by simp) (by simp) (by simp) (by simp) (by simp) (by simp) (by simp) (by simp) r

@[simp] theorem State.markValid_pwout (s : State) (q : OpReg) (sw : Servo) : (s.markValid q).pwout sw = s.pwout sw := by
  cases sw <;> simp [State.pwout]

@[simp] theorem State.markValid_act (s : State) (q : OpReg) (sw : Servo) : (s.markValid q).act sw = s.act sw := by
  cases sw <;> simp [State.act]

@[simp] theorem State.setAct_operand (s : State) (sv : Servo) (a : BitVec 2) (r : OpReg) : (s.setAct sv a).operand r = s.operand r :=
  State.operand_congr (by simp) (by simp) (by simp) (by simp) (by simp) (by simp) (by simp) (by simp) (by simp) r

@[simp] theorem State.setAct_isValid (s : State) (sv : Servo) (a : BitVec 2) (r : OpReg) : (s.setAct sv a).isValid r = s.isValid r :=
  State.isValid_congr (by simp) r

@[simp] theorem State.setAct_pwout (s : State) (sv : Servo) (a : BitVec 2) (sw : Servo) : (s.setAct sv a).pwout sw = s.pwout sw := by
  cases sw <;> simp [State.pwout]

@[simp] theorem State.setPwout_operand (s : State) (sv : Servo) (v : Half) (r : OpReg) : (s.setPwout sv v).operand r = s.operand r :=
  State.operand_congr (by simp) (by simp) (by simp) (by simp) (by simp) (by simp) (by simp) (by simp) (by simp) r

@[simp] theorem State.setPwout_isValid (s : State) (sv : Servo) (v : Half) (r : OpReg) : (s.setPwout sv v).isValid r = s.isValid r :=
  State.isValid_congr (by simp) r

@[simp] theorem State.setPwout_act (s : State) (sv : Servo) (v : Half) (sw : Servo) : (s.setPwout sv v).act sw = s.act sw := by
  cases sw <;> simp [State.act]

@[simp] theorem emitAct_operand (s : State) (sv : Servo) (v : Half) (r : OpReg) : (emitAct s sv v).operand r = s.operand r :=
  State.operand_congr (by simp) (by simp) (by simp) (by simp) (by simp) (by simp) (by simp) (by simp) (by simp) r

@[simp] theorem emitAct_isValid (s : State) (sv : Servo) (v : Half) (r : OpReg) : (emitAct s sv v).isValid r = s.isValid r :=
  State.isValid_congr (by simp) r

@[simp] theorem emitAct_act (s : State) (sv : Servo) (v : Half) (sw : Servo) : (emitAct s sv v).act sw = s.act sw := by
  cases sw <;> simp [State.act]

@[simp] theorem readPort_operand (idx : RegIdx) (s : State) (r : OpReg) : (readPort idx s).operand r = s.operand r :=
  State.operand_congr (by simp) (by simp) (by simp) (by simp) (by simp) (by simp) (by simp) (by simp) (by simp) r

@[simp] theorem readPort_isValid (idx : RegIdx) (s : State) (r : OpReg) : (readPort idx s).isValid r = s.isValid r :=
  State.isValid_congr (by simp) r

@[simp] theorem readPort_pwout (idx : RegIdx) (s : State) (sw : Servo) : (readPort idx s).pwout sw = s.pwout sw := by
  cases sw <;> simp [State.pwout]

@[simp] theorem readPort_act (idx : RegIdx) (s : State) (sw : Servo) : (readPort idx s).act sw = s.act sw := by
  cases sw <;> simp [State.act]

@[simp] theorem State.writeOperand_isValid (s : State) (q : OpReg) (v : Half) (r : OpReg) : (s.writeOperand q v).isValid r = s.isValid r :=
  State.isValid_congr (by simp) r

@[simp] theorem State.writeOperand_pwout (s : State) (q : OpReg) (v : Half) (sw : Servo) : (s.writeOperand q v).pwout sw = s.pwout sw := by
  cases sw <;> simp [State.pwout]

@[simp] theorem State.writeOperand_act (s : State) (q : OpReg) (v : Half) (sw : Servo) : (s.writeOperand q v).act sw = s.act sw := by
  cases sw <;> simp [State.act]

/-! ## What an accessor does not see -/

@[simp] theorem State.operand_withInputs (s : State) (ps : List PortInput) (r : OpReg) :
    ({ s with inputs := ps } : State).operand r = s.operand r := by
  rcases r with (_ | _) | (_ | _) | _ | (_ | _) | (_ | _) <;> rfl

@[simp] theorem State.isValid_withInputs (s : State) (ps : List PortInput) (r : OpReg) :
    ({ s with inputs := ps } : State).isValid r = s.isValid r := rfl

@[simp] theorem State.pwout_withInputs (s : State) (ps : List PortInput) (sw : Servo) :
    ({ s with inputs := ps } : State).pwout sw = s.pwout sw := by
  cases sw <;> rfl

@[simp] theorem State.act_withInputs (s : State) (ps : List PortInput) (sw : Servo) :
    ({ s with inputs := ps } : State).act sw = s.act sw := by
  cases sw <;> rfl

theorem emitAct_pwout (s : State) (sv sw : Servo) (v : Half) :
    (emitAct s sv v).pwout sw = if sw = sv then v else s.pwout sw := by
  simp [emitAct, State.pwout_setPwout]

/-- A VALID bit after one register is marked: that register's is set, the others stay. -/
theorem State.markValid_isValid (s : State) (q r : OpReg) :
    (s.markValid q).isValid r = (decide (r = q) || s.isValid r) := by
  rcases q with (_ | _) | (_ | _) | _ | (_ | _) | (_ | _) <;> rcases r with (_ | _) | (_ | _) | _ | (_ | _) | (_ | _) <;>
    simp [State.isValid, State.markValid, validBit]

end Sys2Proof.Machine
end

