-- ==== Sys2Proof/Laws/Ops.lean ====
section
/-! SUPPORT. One lemma per shared operation that says what it can do, cited in place of unfolding it. -/

namespace Sys2Proof.Machine

/-! ## Indices -/

@[simp] theorem opRegOfIndex_opRegIndex (r : OpReg) : opRegOfIndex (opRegIndex r) = some r := by
  rcases r with (_ | _) | (_ | _) | _ | (_ | _) | (_ | _) <;> decide

@[simp] theorem servoOfIndex_servoIndex (sv : Servo) : servoOfIndex (servoIndex sv) = some sv := by
  cases sv <;> decide

/-- An index names a writable register exactly when it is that register's index. -/
theorem opRegOfIndex_eq_some : ∀ (i : RegIdx) (r : OpReg), opRegOfIndex i = some r → i = opRegIndex r := by
  intro i r h
  have key : ∀ i : RegIdx, ∀ r ∈ opRegOfIndex i, i = opRegIndex r := by decide
  exact key i r h

/-- The indices that name no writable register are those outside 4..12 (R117). -/
theorem opRegOfIndex_eq_none (i : RegIdx) : opRegOfIndex i = none ↔ i.toNat < 4 ∨ 12 < i.toNat := by
  revert i; decide

/-- An index names a servo exactly when it is that servo's index. -/
theorem servoOfIndex_eq_some : ∀ (i : RegIdx) (sv : Servo), servoOfIndex i = some sv → i = servoIndex sv := by
  intro i sv h
  have key : ∀ i : RegIdx, ∀ sv ∈ servoOfIndex i, i = servoIndex sv := by decide
  exact key i sv h

/-- The indices that name no servo are those above 1 (R117). -/
theorem servoOfIndex_eq_none (i : RegIdx) : servoOfIndex i = none ↔ 1 < i.toNat := by
  revert i; decide

/-! ## Fault codes -/

/-- No fault's code is 0, the value that means no fault (R114). -/
@[simp] theorem faultCodeBits_ne_zero (c : FaultCode) : faultCodeBits c ≠ 0#4 := by cases c <;> decide

@[simp] theorem errAfter_zero (c : FaultCode) : errAfter 0#4 c = faultCodeBits c := rfl

/-- A recorded code stays (R122). -/
theorem errAfter_of_ne_zero {e : BitVec 4} (h : e ≠ 0#4) (c : FaultCode) : errAfter e c = e := if_neg h

/-! ## The operand checks -/

/-- The checks pass exactly when every operand read is written, the range is in order and the feedback is on the scale. -/
theorem operandFault_eq_none (s : State) (sv : Servo) (reads : List OpReg) :
    operandFault s sv reads = none ↔
      (∀ r ∈ reads, s.isValid r = true) ∧ pwminOf s sv < pwmaxOf s sv ∧ feedbackOf s sv ≤ 100 := by
  unfold operandFault
  by_cases hv : reads.all s.isValid = true
  · by_cases hc : pwminOf s sv < pwmaxOf s sv
    · by_cases hf : feedbackOf s sv ≤ 100 <;> simp_all
    · rw [if_pos hv, if_neg hc]
      simp [hc]
  · rw [if_neg hv]
    simp only [List.all_eq_true] at hv
    simp [hv]

/-- The checks see the operand registers and their VALID bits alone. -/
theorem operandFault_congr {s t : State} {sv : Servo} {reads : List OpReg} (hv : ∀ q, t.isValid q = s.isValid q)
    (ho : ∀ q, t.operand q = s.operand q) : operandFault t sv reads = operandFault s sv reads := by
  unfold operandFault pwminOf pwmaxOf feedbackOf
  rw [show t.isValid = s.isValid from funext hv, ho, ho, ho]

/-! ## Inversion -/

/-- A BB command ends in BAD_INDEX, in a fault of its operand checks, or Ok with its effect on the servo. -/
theorem onServo_cases {r : RegIdx} {reads : Servo → List OpReg} {effect : State → Servo → State} {s : State} :
    (servoOfIndex r = none ∧ onServo r reads effect s = takeFault .badIndex s) ∨
    (∃ sv c, r = servoIndex sv ∧ operandFault s sv (reads sv) = some c ∧ onServo r reads effect s = takeFault c s) ∨
    (∃ sv, r = servoIndex sv ∧ operandFault s sv (reads sv) = none ∧
      onServo r reads effect s = .next ((effect s sv).record .ok)) := by
  unfold onServo
  cases hi : servoOfIndex r with
  | none => exact .inl ⟨rfl, rfl⟩
  | some sv =>
    have hr := servoOfIndex_eq_some r sv hi
    cases hf : operandFault s sv (reads sv) with
    | none => exact .inr (.inr ⟨sv, hr, hf, by simp [hf, complete]⟩)
    | some c => exact .inr (.inl ⟨sv, c, hr, hf, by simp [hf]⟩)

/-- SETR ends in BAD_INDEX, or Ok with the register written and marked. -/
theorem execSetr_cases {r : RegIdx} {v : Half} {s : State} :
    (opRegOfIndex r = none ∧ execSetr r v s = takeFault .badIndex s) ∨
    (∃ q, r = opRegIndex q ∧ execSetr r v s = .next (((s.writeOperand q v).markValid q).record .ok)) := by
  unfold execSetr
  cases h : opRegOfIndex r with
  | none => exact .inl ⟨rfl, rfl⟩
  | some q => exact .inr ⟨q, opRegOfIndex_eq_some r q h, rfl⟩

/-- What a step can do: hold the state, put a register out, reset, execute the command a word decodes to, or fault. -/
theorem step_cases {s : State} :
    (s.inputs = [] ∧ step s = .next s) ∨
    (∃ idx rest, s.inputs = .read idx :: rest ∧ step s = .next (readPort idx { s with inputs := rest })) ∨
    (∃ rest, s.inputs = .reset :: rest ∧ step s = .next (resetEvent { s with inputs := rest })) ∨
    (∃ w rest i, s.inputs = .command w :: rest ∧ decode w = .ok i ∧ step s = exec i { s with inputs := rest }) ∨
    (∃ w rest c, s.inputs = .command w :: rest ∧ decode w = .error c ∧
      step s = .next (raiseFault c { s with inputs := rest })) := by
  unfold step takeInput
  rcases h : s.inputs with _ | ⟨_ | _ | _, rest⟩
  · simp
  · rename_i w
    cases hd : decode w with
    | ok i => exact .inr (.inr (.inr (.inl ⟨w, rest, i, rfl, hd, by simp [hd]⟩)))
    | error c => exact .inr (.inr (.inr (.inr ⟨w, rest, c, rfl, hd, by simp [hd, takeFault]⟩)))
  · rename_i idx
    exact .inr (.inl ⟨idx, rest, rfl, rfl⟩)
  · exact .inr (.inr (.inl ⟨rest, rfl, rfl⟩))

/-! ## Sequences of commands -/

theorem runCommands_cons {i : Instr} {rest : List Instr} {s t : State} (h : exec i s = .next t) :
    runCommands (i :: rest) s = runCommands rest t := by
  simp [runCommands, h]

/-! ## The history's projections -/

@[simp] theorem eventOf_ok : eventOf .ok = none := rfl

@[simp] theorem outcomeOf_ok : outcomeOf .ok = some none := rfl

@[simp] theorem eventOf_fault (c : FaultCode) : eventOf (.fault c) = none := rfl

@[simp] theorem outcomeOf_fault (c : FaultCode) : outcomeOf (.fault c) = some (some c) := rfl

@[simp] theorem eventOf_act (e : ActEvent) : eventOf (.act e) = some e := rfl

@[simp] theorem outcomeOf_act (e : ActEvent) : outcomeOf (.act e) = none := rfl

@[simp] theorem eventOf_readOut (i : RegIdx) (v : Half) : eventOf (.readOut i v) = none := rfl

@[simp] theorem outcomeOf_readOut (i : RegIdx) (v : Half) : outcomeOf (.readOut i v) = none := rfl

@[simp] theorem eventOf_reset : eventOf .reset = none := rfl

@[simp] theorem outcomeOf_reset : outcomeOf .reset = none := rfl

@[simp] theorem filterMap_eventOf_ok (l : List Obs) :
    (Obs.ok :: l).filterMap eventOf = l.filterMap eventOf := rfl

@[simp] theorem filterMap_outcomeOf_ok (l : List Obs) :
    (Obs.ok :: l).filterMap outcomeOf = none :: l.filterMap outcomeOf := rfl

@[simp] theorem filterMap_eventOf_fault (c : FaultCode) (l : List Obs) :
    (Obs.fault c :: l).filterMap eventOf = l.filterMap eventOf := rfl

@[simp] theorem filterMap_outcomeOf_fault (c : FaultCode) (l : List Obs) :
    (Obs.fault c :: l).filterMap outcomeOf = some c :: l.filterMap outcomeOf := rfl

@[simp] theorem filterMap_eventOf_act (e : ActEvent) (l : List Obs) :
    (Obs.act e :: l).filterMap eventOf = e :: l.filterMap eventOf := rfl

@[simp] theorem filterMap_outcomeOf_act (e : ActEvent) (l : List Obs) :
    (Obs.act e :: l).filterMap outcomeOf = l.filterMap outcomeOf := rfl

@[simp] theorem filterMap_eventOf_readOut (i : RegIdx) (v : Half) (l : List Obs) :
    (Obs.readOut i v :: l).filterMap eventOf = l.filterMap eventOf := rfl

@[simp] theorem filterMap_outcomeOf_readOut (i : RegIdx) (v : Half) (l : List Obs) :
    (Obs.readOut i v :: l).filterMap outcomeOf = l.filterMap outcomeOf := rfl

@[simp] theorem filterMap_eventOf_reset (l : List Obs) :
    (Obs.reset :: l).filterMap eventOf = l.filterMap eventOf := rfl

@[simp] theorem filterMap_outcomeOf_reset (l : List Obs) :
    (Obs.reset :: l).filterMap outcomeOf = l.filterMap outcomeOf := rfl

theorem State.events_append {s t : State} {h : List Obs} (ht : t.history = s.history ++ h) :
    t.events = s.events ++ h.filterMap eventOf := by
  simp [State.events, ht]

theorem State.outcomes_append {s t : State} {h : List Obs} (ht : t.history = s.history ++ h) :
    t.outcomes = s.outcomes ++ h.filterMap outcomeOf := by
  simp [State.outcomes, ht]

end Sys2Proof.Machine
end

