-- ==== Sys2Proof/Laws/PerInstr.lean ====
section
/-! SUPPORT. Statements about every command as syntax, one lemma per constructor. -/

namespace Sys2Proof.Laws.EncodedFields

/-- A command's word carries its opcode in bits 31:28 and zeros in the reserved field (R55, R56). -/
def Statement (i : Instr) : Prop := opField (encode i) = i.opcode ∧ zField (encode i) = 0#8

theorem crcInit : Statement .crcInit := ⟨opField_wordOfFields _ _ _ _, zField_wordOfFields _ _ _ _⟩

theorem crcByte (b : Byte) : Statement (.crcByte b) := ⟨opField_wordOfFields _ _ _ _, zField_wordOfFields _ _ _ _⟩

theorem crcCheck (f : Half) : Statement (.crcCheck f) := ⟨opField_wordOfFields _ _ _ _, zField_wordOfFields _ _ _ _⟩

theorem setr (r : RegIdx) (v : Half) : Statement (.setr r v) := ⟨opField_wordOfFields _ _ _ _, zField_wordOfFields _ _ _ _⟩

theorem bbEval (r : RegIdx) : Statement (.bbEval r) := ⟨opField_wordOfFields _ _ _ _, zField_wordOfFields _ _ _ _⟩

theorem bbHold (r : RegIdx) : Statement (.bbHold r) := ⟨opField_wordOfFields _ _ _ _, zField_wordOfFields _ _ _ _⟩

end Sys2Proof.Laws.EncodedFields
end

