-- ==== Sys2Proof/Laws/Safety.lean ====
section
/-! SUPPORT. How the history since the last reset grows by one entry, and what is read from it. -/

namespace Sys2Proof.Safety

open Sys2Proof.Machine

@[simp] theorem sinceReset_append_reset (h : List Obs) : sinceReset (h ++ [.reset]) = [] := by
  simp [sinceReset, addSinceReset]

theorem sinceReset_append_one (h : List Obs) (o : Obs) (ho : o ≠ .reset) :
    sinceReset (h ++ [o]) = sinceReset h ++ [o] := by
  cases o <;> simp_all [sinceReset, addSinceReset]

@[simp] theorem sinceReset_append_ok (h : List Obs) : sinceReset (h ++ [.ok]) = sinceReset h ++ [.ok] :=
  sinceReset_append_one h _ (by simp)

@[simp] theorem sinceReset_append_fault (h : List Obs) (c : FaultCode) :
    sinceReset (h ++ [.fault c]) = sinceReset h ++ [.fault c] :=
  sinceReset_append_one h _ (by simp)

@[simp] theorem sinceReset_append_act (h : List Obs) (e : ActEvent) :
    sinceReset (h ++ [.act e]) = sinceReset h ++ [.act e] :=
  sinceReset_append_one h _ (by simp)

@[simp] theorem sinceReset_append_readOut (h : List Obs) (i : RegIdx) (v : Half) :
    sinceReset (h ++ [.readOut i v]) = sinceReset h ++ [.readOut i v] :=
  sinceReset_append_one h _ (by simp)

@[simp] theorem firstFault_fault (c : FaultCode) : firstFault [.fault c] = some c := rfl

/-- Entries without a reset add to the entries since the last reset. -/
theorem sinceReset_append (h l : List Obs) (hl : Obs.reset ∉ l) : sinceReset (h ++ l) = sinceReset h ++ l := by
  induction l generalizing h with
  | nil => simp
  | cons o l ih =>
    rw [show h ++ o :: l = (h ++ [o]) ++ l by simp, ih _ (by simp_all), sinceReset_append_one _ _ (by simp_all [eq_comm])]
    simp

@[simp] theorem sinceReset_append_act_ok (h : List Obs) (e : ActEvent) :
    sinceReset (h ++ [.act e, .ok]) = sinceReset h ++ [.act e, .ok] := sinceReset_append _ _ (by simp)

@[simp] theorem firstFault_append (h l : List Obs) : firstFault (h ++ l) = (firstFault h).or (firstFault l) := by
  simp [firstFault, List.findSome?_append]

@[simp] theorem firstFault_ok : firstFault [.ok] = none := rfl

@[simp] theorem firstFault_readOut (i : RegIdx) (v : Half) : firstFault [.readOut i v] = none := rfl

@[simp] theorem firstFault_act_ok (e : ActEvent) : firstFault [.act e, .ok] = none := rfl

@[simp] theorem widthsOf_append (sv : Servo) (h l : List Obs) : widthsOf sv (h ++ l) = widthsOf sv h ++ widthsOf sv l := by
  simp [widthsOf]

@[simp] theorem widthsOf_ok (sv : Servo) : widthsOf sv [.ok] = [] := rfl

@[simp] theorem widthsOf_fault (sv : Servo) (c : FaultCode) : widthsOf sv [.fault c] = [] := rfl

@[simp] theorem widthsOf_readOut (sv : Servo) (i : RegIdx) (v : Half) : widthsOf sv [.readOut i v] = [] := rfl

@[simp] theorem widthsOf_act_ok (sv : Servo) (e : ActEvent) :
    widthsOf sv [.act e, .ok] = if e.servo = sv then [e.width] else [] := by
  by_cases he : e.servo = sv <;> simp [widthsOf, widthOf, he]

/-! ## A word's fields as numbers -/

theorem opOf_eq_toNat (w : Word) : opOf w = (opField w).toNat := by
  have := w.isLt
  simp only [opOf, opField, BitVec.extractLsb'_toNat, Nat.shiftRight_eq_div_pow]
  omega

theorem rOf_eq_toNat (w : Word) : rOf w = (rField w).toNat := by
  simp [rOf, rField, BitVec.extractLsb'_toNat, Nat.shiftRight_eq_div_pow]

theorem zOf_eq_toNat (w : Word) : zOf w = (zField w).toNat := by
  simp [zOf, zField, BitVec.extractLsb'_toNat, Nat.shiftRight_eq_div_pow]

theorem immOf_eq_toNat (w : Word) : immOf w = (immField w).toNat := by
  simp [immOf, immField, BitVec.extractLsb'_toNat]

theorem immHigh_toNat (w : Word) : (immHigh w).toNat = immOf w / 256 := by
  simp only [immOf, immHigh, BitVec.extractLsb'_toNat, Nat.shiftRight_eq_div_pow]
  omega

theorem immLow_toNat (w : Word) : (immLow w).toNat = immOf w % 256 := by
  simp only [immOf, immLow, BitVec.extractLsb'_toNat, Nat.shiftRight_eq_div_pow]
  omega

/-- Fault entry is the shared operation's (R122). -/
theorem raiseFault_eq_faulted (c : FaultCode) (s : State) : raiseFault c s = faulted (faultCodeBits c) c s := rfl

end Sys2Proof.Safety
end

