-- ==== Sys2Proof/Tests/Slice0.lean ====
section
/-! SUPPORT. The model's own tests: expected values are spec/95_test_vectors.md's and the encodings of spec/30_encoding.md; and,
for every statement with hypotheses, a state and operands that meet them all. -/

namespace Sys2Proof.Tests

open Sys2Proof Sys2Proof.Machine Sys2Proof.Safety

/-! ## Helpers -/

/-- The next state of an answer, none if it is a stop. -/
def answered : Answer → Option State
  | .next t => some t
  | .fault _ => none
  | .refused _ => none

/-- The reset state with one command word presented. -/
def presenting (w : Word) : State := State.reset.present [.command w]

/-- The reset state with servo 0's five operands written (VALID bits 0, 2, 4, 5, 6). -/
def servo0State (t fb tol mn mx : Half) : State :=
  { State.reset with tgt0 := t, fb0 := fb, tol := tol, pwmin0 := mn, pwmax0 := mx, valid := 0x075#9 }

/-- The reset state with servo 1's five operands written (VALID bits 1, 3, 4, 7, 8). -/
def servo1State (t fb tol mn mx : Half) : State :=
  { State.reset with tgt1 := t, fb1 := fb, tol := tol, pwmin1 := mn, pwmax1 := mx, valid := 0x19A#9 }

/-- The reset state with both calibrated ranges written, 1000..2000 (VALID bits 5 to 8). -/
def calibratedState : State :=
  { State.reset with pwmin0 := 1000#16, pwmax0 := 2000#16, pwmin1 := 1000#16, pwmax1 := 2000#16, valid := 0x1E0#9 }

/-! ## WellFormed smoke tests: the legal terms, and an ill-formed term for each check (R56) -/

theorem test_wellFormed_legal :
    Instr.crcInit.WellFormed ∧ (Instr.crcByte 0xFF#8).WellFormed ∧ (Instr.crcCheck 0xFFFF#16).WellFormed ∧
      (Instr.setr 4#4 0#16).WellFormed ∧ (Instr.setr 12#4 0#16).WellFormed ∧ (Instr.bbEval 1#4).WellFormed ∧
      (Instr.bbHold 1#4).WellFormed := by decide

theorem test_wellFormed_refuses_setr_below : ¬(Instr.setr 3#4 5#16).WellFormed := by decide

theorem test_wellFormed_refuses_setr_above : ¬(Instr.setr 13#4 5#16).WellFormed := by decide

theorem test_wellFormed_refuses_eval_servo_two : ¬(Instr.bbEval 2#4).WellFormed := by decide

theorem test_wellFormed_refuses_hold_servo_two : ¬(Instr.bbHold 2#4).WellFormed := by decide

/-! ## Decoding, from words written bit by bit: op, r, z, imm (R54, R55, R56) -/

theorem test_decode_crcInit : decode 0b0001_0000_00000000_0000000000000000#32 = .ok .crcInit := by decide

theorem test_decode_crcByte : decode 0b0010_0000_00000000_0000000010000001#32 = .ok (.crcByte 0x81#8) := by decide

theorem test_decode_crcCheck : decode 0b0011_0000_00000000_1111001111000101#32 = .ok (.crcCheck 0xF3C5#16) := by decide

theorem test_decode_setr : decode 0b0100_1001_00000000_0000010001001100#32 = .ok (.setr 9#4 1100#16) := by decide

theorem test_decode_bbEval : decode 0b0101_0001_00000000_0000000000000000#32 = .ok (.bbEval 1#4) := by decide

theorem test_decode_bbHold : decode 0b0110_0001_00000000_0000000000000000#32 = .ok (.bbHold 1#4) := by decide

theorem test_encode_words :
    encode .crcInit = 0x10000000#32 ∧ encode (.crcByte 0x32#8) = 0x20000032#32 ∧ encode (.crcCheck 0x0213#16) = 0x30000213#32 ∧
      encode (.setr 9#4 1100#16) = 0x4900044C#32 ∧ encode (.bbEval 1#4) = 0x51000000#32 ∧ encode (.bbHold 0#4) = 0x60000000#32 := by
  decide

/-- Vectors 5: opcodes 0, 7 and F. -/
theorem test_decode_illegal :
    decode 0x00000000#32 = .error .illegalOpcode ∧ decode 0x70000000#32 = .error .illegalOpcode ∧
      decode 0xFFFFFFFF#32 = .error .illegalOpcode := by decide

/-- Vectors 5: one reserved bit each; the last two also break the index check, which comes later. -/
theorem test_decode_reserved :
    [0x11000000#32, 0x10000001#32, 0x10010000#32, 0x20000100#32, 0x21000000#32, 0x31000213#32, 0x30800213#32,
      0x44010005#32, 0x50000001#32, 0x50010000#32, 0x5F010000#32, 0x4F010000#32].map decodeChecked =
      List.replicate 12 (.error .reservedBits) := by decide +kernel

/-- Vectors 5 and 4.2: indices that are no servo and no writable register. -/
theorem test_decode_badIndex :
    [0x52000000#32, 0x6F000000#32, 0x4F000005#32, 0x40000005#32, 0x43000005#32, 0x4D000005#32].map decodeChecked =
      List.replicate 6 (.error .badIndex) := by decide +kernel

theorem test_decodeBytes_first_word :
    decodeBytes [0x20#8, 0x00#8, 0x00#8, 0x32#8, 0x10#8] = some (.ok (.crcByte 0x32#8), [0x10#8]) := by decide

/-- Three bytes are no word (R45). -/
theorem test_decodeBytes_waits : decodeBytes [0x20#8, 0x00#8, 0x00#8] = none := by decide

theorem test_decodeTableWord :
    decodeTableWord 32 0x4900044C = some (.setr 9#4 1100#16) ∧ decodeTableWord 32 0x10000000 = some .crcInit ∧
      decodeTableWord 32 0x70000000 = none := by decide

/-- The word placed is the next one run. -/
theorem test_withFetchWord :
    (answered (step (State.reset.withFetchWord 32 0x4900044C))).map (·.pwmin0) = some 1100#16 := by decide

/-! ## Assembly (R65, R66, R67, R69, R71) -/

theorem test_assemble_verify :
    (expandLine "CRC_VERIFY 0x1D30; 0x02, 0x01 ; comment".toList).toOption = some (crcVerify 0x1D30#16 [2#8, 1#8]) := by
  decide +kernel

theorem test_assemble_tick :
    (expandLine "BB_TICK 50, -60, 2; 40, 62; 45, 61".toList).toOption =
      some (bbTick 50#16 0xFFC4#16 2#16 40#16 62#16 45#16 61#16) := by decide +kernel

theorem test_assemble_does_not_fit :
    (assembleLine "CRC_BYTE 256".toList).toOption = none ∧ (assembleLine "SETR TOL, 65536".toList).toOption = none ∧
      (assembleLine "SETR TGT0, -32769".toList).toOption = none := by decide +kernel

theorem test_disassemble_signed_target :
    disassemble (.setr 4#4 0xFFFB#16) = "SETR TGT0, -5".toList ∧ disassemble (.setr 8#4 0xFFFB#16) = "SETR TOL, 65531".toList := by
  decide +kernel

/-! ## The CRC commands (vectors 2.3, 3.1, 4.1) -/

theorem test_crc15Step_top_bit : crc15Step 0x4000#15 0x00#8 = 0x73C5#15 ∧ crc15Step 0x7FFF#15 0x7F#8 = 0x7F80#15 := by decide

theorem test_crc15_position_frame : crc15 [0x04#8, 0x02#8, 0x32#8, 0x64#8, 0x14#8, 0x0A#8] = 0x0213#15 := by decide +kernel

theorem test_crcInit_keeps_match :
    (answered (exec .crcInit { State.reset with crc := 0x73C5#15, matched := true })).map (fun t => (rd t 0, rd t 1)) =
      some (0x0000#16, 0x0001#16) := by decide

theorem test_crcByte_folds : (answered (exec (.crcByte 0x01#8) State.reset)).map (rd · 0) = some 0x73C5#16 := by decide

theorem test_crcByte_bit_seven : (answered (exec (.crcByte 0x81#8) State.reset)).map (rd · 0) = some 0x73C5#16 := by decide

theorem test_crcCheck_match :
    (answered (exec (.crcCheck 0x73C5#16) { State.reset with crc := 0x73C5#15 })).map (rd · 1) = some 0x0001#16 := by decide

theorem test_crcCheck_bit_fifteen :
    (answered (exec (.crcCheck 0xF3C5#16) { State.reset with crc := 0x73C5#15, matched := true })).map (rd · 1) =
      some 0x0000#16 := by decide

/-! ## SETR (vectors 4.2) -/

theorem test_setr_writes_and_marks :
    (answered (exec (.setr 9#4 1100#16) State.reset)).map (fun t => (rd t 9, rd t 2)) = some (0x044C#16, 0x0020#16) := by decide

theorem test_setr_read_only_index :
    (answered (exec (.setr 13#4 5#16) State.reset)).map (fun t => (rd t 13, rd t 1)) = some (0x0000#16, 0x0030#16) := by decide

/-! ## BB_EVAL and BB_HOLD (vectors 4.3, 4.4, 5) -/

theorem test_bbEval_drives_min :
    (answered (exec (.bbEval 0#4) (servo0State 20#16 15#16 0#16 1100#16 1900#16))).map (fun t => (t.events, rd t 13, rd t 15)) =
      some ([⟨.servo0, 1100#16⟩], 1100#16, 0x0002#16) := by decide

theorem test_bbEval_negative_target_does_not_wrap :
    (answered (exec (.bbEval 1#4) (servo1State 0x8000#16 100#16 0#16 1000#16 2000#16))).map
      (fun t => (t.events, rd t 14, rd t 15)) = some ([⟨.servo1, 2000#16⟩], 2000#16, 0x000C#16) := by decide

theorem test_bbHold_floors :
    (answered (exec (.bbHold 0#4) (servo0State 0#16 99#16 0#16 1000#16 1099#16))).map (·.events) =
      some [⟨.servo0, 1098#16⟩] := by decide

theorem test_bbHold_widest_range :
    (answered (exec (.bbHold 1#4) (servo1State 0#16 100#16 0#16 0#16 65535#16))).map (·.events) =
      some [⟨.servo1, 65535#16⟩] := by decide

/-! ## Faults, reset, the ports (vectors 5; R122, R137, R134) -/

theorem test_first_fault_is_kept :
    (answered (exec (.setr 3#4 0#16) { State.reset with err := 1#4 })).map (rd · 1) = some 0x0010#16 := by decide

theorem test_checks_in_order :
    (answered (exec (.bbHold 0#4) (servo0State 0#16 101#16 0#16 2000#16 1000#16))).map (rd · 1) = some 0x0050#16 ∧
      (answered (exec (.bbHold 0#4) (servo0State 0#16 101#16 0#16 1000#16 2000#16))).map (rd · 1) = some 0x0060#16 ∧
      (answered (exec (.bbHold 0#4) State.reset)).map (rd · 1) = some 0x0040#16 := by decide

theorem test_reset_event_keeps_events :
    (answered (step { servo0State 1#16 2#16 3#16 4#16 5#16 with
      inputs := [.reset], history := [.act ⟨.servo0, 7#16⟩] })).map (fun t => (t.valid, t.fb0, t.events)) =
      some (0#9, 0#16, [⟨.servo0, 7#16⟩]) := by decide

theorem test_nothing_presented_holds : answered (step State.reset) = some State.reset := by decide

/-! ## Witnesses: hypotheses of the statements, met -/

theorem witness_EncodeOfDecode : decode 0x4F001234#32 = .ok (.setr 0xF#4 0x1234#16) := by decide

/-- A word for every branch of the decoder, at the values where the branches meet. -/
theorem witness_DecoderIsTotalInCheckOrder :
    [0x00000000#32, 0x70000000#32, 0x10010000#32, 0x10000000#32, 0x10000001#32, 0x200000FF#32, 0x20000100#32, 0x3000FFFF#32,
        0x31000000#32, 0x43000000#32, 0x44000000#32, 0x4C000000#32, 0x4D000000#32, 0x51000000#32, 0x52000000#32, 0x50000001#32,
        0x61000000#32, 0x62000000#32, 0x62000001#32].map (fun w => (decodeChecked w).toOption) =
      [none, none, none, some .crcInit, none, some (.crcByte 0xFF#8), none, some (.crcCheck 0xFFFF#16), none, none,
        some (.setr 4#4 0#16), some (.setr 12#4 0#16), none, some (.bbEval 1#4), none, none, some (.bbHold 1#4), none, none] := by
  decide

theorem witness_StepRunsTheDecodedCommand :
    (presenting 0x20000001#32).inputs = [.command 0x20000001#32] ∧ decode 0x20000001#32 = .ok (.crcByte 1#8) := by decide

theorem witness_StepTakesTheDecodeFault :
    (presenting 0x43000005#32).inputs = [.command 0x43000005#32] ∧ decodeChecked 0x43000005#32 = .error .badIndex ∧
      decodeChecked 0x11000000#32 = .error .reservedBits ∧ decodeChecked 0x70000000#32 = .error .illegalOpcode := by decide

theorem witness_EveryStepCompletes : State.reset.inputs = [] := rfl

theorem witness_PresentedWordsRunInOrder :
    (State.reset.present [.command 0x10000000#32, .command 0x20000001#32, .read 0#4]).inputs =
      presentation [.crcInit, .crcByte 1#8] ++ [.read 0#4] := by decide

/-- Opcodes 0, 7 and 15 for the first clause; opcodes 1 to 6 with a reserved bit for the second. -/
theorem witness_IllegalAndReservedWordsFault :
    (presenting 0x70000000#32).inputs = [.command 0x70000000#32] ∧
      ([0x0FFFFFFF#32, 0x70000000#32, 0xFFFFFFFF#32].all fun w => decide (opOf w = 0 ∨ 7 ≤ opOf w)) = true ∧
      ([0x10000001#32, 0x20000100#32, 0x31000000#32, 0x40010000#32, 0x50000001#32, 0x60800000#32].all fun w =>
        decide (1 ≤ opOf w ∧ opOf w ≤ 6) && reservedBitSet w) = true := by decide

theorem witness_BadIndexFaults :
    (∀ r ∈ [0#4, 3#4, 13#4, 15#4], r.toNat < 4 ∨ 12 < r.toNat) ∧ ∀ r ∈ [2#4, 15#4], 1 < r.toNat := by decide

/-- Each operand in turn the only one unwritten. -/
theorem witness_UnwrittenOperandFaults :
    ∀ q ∈ evalOperands .servo0, ({ servo0State 20#16 15#16 0#16 1100#16 1900#16 with
      valid := 0x1FF#9 ^^^ (1#9 <<< validBit q) } : State).isValid q = false := by decide

theorem witness_InvalidCalibrationFaults :
    (fun s : State => s.isValid (.fb .servo0) = true ∧ s.isValid (.pwmin .servo0) = true ∧ s.isValid (.pwmax .servo0) = true ∧
      (s.operand (.pwmin .servo0)).toNat ≥ (s.operand (.pwmax .servo0)).toNat ∧
      s.isValid (.tgt .servo0) = true ∧ s.isValid .tol = true) (servo0State 0#16 101#16 0#16 1500#16 1500#16) := by decide

theorem witness_SensorRangeFaults :
    (fun s : State => s.isValid (.fb .servo1) = true ∧ s.isValid (.pwmin .servo1) = true ∧ s.isValid (.pwmax .servo1) = true ∧
      (s.operand (.pwmin .servo1)).toNat < (s.operand (.pwmax .servo1)).toNat ∧ (s.operand (.fb .servo1)).toNat > 100 ∧
      s.isValid (.tgt .servo1) = true ∧ s.isValid .tol = true) (servo1State 0#16 101#16 0#16 0#16 1#16) := by decide

theorem witness_FirstBrokenCheckIsReported : (presenting 0x60000000#32).inputs = [.command 0x60000000#32] := rfl

/-- Every value of `firstBroken`, each where the next check is broken too. -/
theorem test_firstBroken_in_order :
    firstBroken State.reset 0x7F010000#32 = some .illegalOpcode ∧ firstBroken State.reset 0x5F010000#32 = some .reservedBits ∧
      firstBroken State.reset 0x52000000#32 = some .badIndex ∧
      firstBroken { State.reset with fb0 := 101#16 } 0x60000000#32 = some .uninit ∧
      firstBroken (servo0State 0#16 101#16 0#16 5#16 5#16) 0x50000000#32 = some .calInvalid ∧
      firstBroken (servo0State 0#16 101#16 0#16 5#16 6#16) 0x50000000#32 = some .sensorRange ∧
      firstBroken (servo0State 0#16 100#16 0#16 5#16 6#16) 0x50000000#32 = none := by decide

theorem witness_FaultEntryKeepsEverythingElse :
    ∃ t : State, step (presenting 0x00000000#32) = .next t ∧
      t.outcomes = (presenting 0x00000000#32).outcomes ++ [some .illegalOpcode] :=
  ⟨_, rfl, rfl⟩

/-- A faulting word for the first clause, a reset event for the second. -/
theorem witness_OnlyResetClearsErr :
    (fun s : State => (∃ t, step s = .next t) ∧ s.err ≠ 0#4 ∧ s.inputs.head? ≠ some .reset)
        { presenting 0x00000000#32 with err := 3#4 } ∧
      (fun s : State => (∃ t, step s = .next t) ∧ s.err ≠ 0#4 ∧ s.inputs.head? = some .reset)
        { State.reset with err := 3#4, inputs := [.reset] } :=
  ⟨⟨⟨_, rfl⟩, by decide, by decide⟩, ⟨_, rfl⟩, by decide, by decide⟩

theorem witness_CommandsRunTheSameUnderAnyErr :
    ∃ t : State, exec (.bbHold 0#4) (servo0State 0#16 50#16 0#16 1000#16 2000#16) = .next t := ⟨_, rfl⟩

theorem witness_FoldIsLinear : [0x04#8, 0x02#8].length = [0x80#8, 0x7F#8].length := rfl

theorem witness_FoldBlindSpots : ∀ x ∈ [0x00#8, 0x80#8], x = 0x00#8 ∨ x = 0x80#8 := by decide

theorem witness_SingleFoldedFlipIsDetected : 13 < 7 * [0x04#8, 0x02#8].length := by decide

theorem witness_OddFoldedFlipsAreDetected :
    [0x04#8].length = [0x03#8].length ∧
      (List.zipWith Bool.xor (foldedBits [0x04#8]) (foldedBits [0x03#8])).count true % 2 = 1 := by decide

theorem witness_FlipsOnePeriodApartAreMissed : 5 + 127 < 7 * (List.replicate 19 0x00#8).length := by decide

theorem witness_SoftwareStepAgreesBelowBit15 : (0x7FFF#16).toNat < 2 ^ 15 ∧ 2 ^ 15 ≤ (0x8000#16).toNat := by decide

/-- A word with each reserved field of CRC_INIT set. -/
theorem witness_CrcInitClearsTheChecksum :
    (opOf 0x11000000#32 = 1 ∧ rOf 0x11000000#32 ≠ 0) ∧ (opOf 0x10010000#32 = 1 ∧ zOf 0x10010000#32 ≠ 0) ∧
      (opOf 0x10000001#32 = 1 ∧ immOf 0x10000001#32 ≠ 0) := by decide

theorem witness_CrcByteFoldsOneByte :
    (opOf 0x21000000#32 = 2 ∧ rOf 0x21000000#32 ≠ 0) ∧ (opOf 0x20010000#32 = 2 ∧ zOf 0x20010000#32 ≠ 0) ∧
      (opOf 0x20000100#32 = 2 ∧ 256 ≤ immOf 0x20000100#32) := by decide

theorem witness_CrcCheckComparesSixteenBits :
    (opOf 0x31000000#32 = 3 ∧ rOf 0x31000000#32 ≠ 0) ∧ (opOf 0x30800000#32 = 3 ∧ zOf 0x30800000#32 ≠ 0) ∧
      2 ^ 15 ≤ (0x8000#16).toNat := by decide

/-- A step that writes `crc`, one that writes `MATCH`, and a reset, each a next state. -/
theorem witness_CrcUnitHasNoOtherWriter :
    (answered (step (presenting 0x20000001#32))).map (·.crc) = some 0x73C5#15 ∧
      (answered (step (presenting 0x30000000#32))).map (·.matched) = some true ∧
      (answered (step { State.reset with crc := 5#15, matched := true, inputs := [.reset] })).map (fun t => (t.crc, t.matched)) =
        some (0#15, false) := by decide

theorem witness_RegisterIndexMap : ∀ r ∈ [3#4, 13#4], r.toNat < 4 ∨ 12 < r.toNat := by decide

theorem witness_ReservedRegisterBitsReadZero :
    (∀ k ∈ [1, 3, 8, 15], (1 ≤ k ∧ k ≤ 3) ∨ 8 ≤ k) ∧ (∀ k ∈ [9, 15], 9 ≤ k) ∧ ∀ k ∈ [4, 15], 4 ≤ k := by decide

theorem witness_ReadHasNoSideEffect : (State.reset.present [.read 0xF#4]).inputs = [.read 0xF#4] := rfl

theorem witness_SetrWritesOneRegister :
    (∀ r ∈ [4#4, 12#4], 4 ≤ r.toNat ∧ r.toNat ≤ 12) ∧ (opOf 0x44010005#32 = 4 ∧ zOf 0x44010005#32 ≠ 0) ∧
      (∀ r ∈ [3#4, 13#4], r.toNat < 4 ∨ 12 < r.toNat) ∧ (5#4 ≠ 4#4 ∧ 5#4 ≠ 2#4) := by decide

theorem witness_TargetIsSigned : 2 ^ 15 ≤ (0x8000#16).toNat ∧ 2 ^ 15 ≤ (0xFFFF#16).toNat := by decide

theorem witness_OperandsHaveNoOtherWriter :
    (answered (step (presenting 0x4C001234#32))).map (fun t => (t.operand (.pwmax .servo1), t.isValid (.pwmax .servo1))) =
        some (0x1234#16, true) ∧
      (answered (step { servo0State 1#16 2#16 3#16 4#16 5#16 with inputs := [.reset] })).map
        (fun t => (t.operand .tol, t.isValid .tol)) = some (0#16, false) := by decide

/-- Both sides of the tolerance, above and below, at zero and at the widest band. -/
theorem witness_ComparatorDecision :
    (0 : Int) ≤ 1 ∧ bbDecide 22 20 1 = .driveMin ∧ bbDecide 21 20 1 = .hold ∧ bbDecide 20 21 1 = .hold ∧ bbDecide 20 22 1 = .driveMax ∧
      bbDecide 20 20 0 = .hold ∧ bbDecide (-32768) 100 65535 = .hold ∧ bbDecide (-32768) 100 0 = .driveMax := by decide

/-- A ready servo for each of the three outcomes, at the edge of the tolerance; then what each fault asks for, at the edge. -/
theorem witness_EvalDrivesOrHolds :
    (EvalReady (servo0State 22#16 20#16 1#16 0#16 1#16) .servo0 ∧ (22#16).toInt - (20#16).toNat > (1#16).toNat) ∧
      (EvalReady (servo0State 0xFFFF#16 1#16 1#16 0#16 1#16) .servo0 ∧ (1#16).toNat - (0xFFFF#16).toInt > (1#16).toNat) ∧
      (EvalReady (servo1State 21#16 20#16 1#16 0#16 1#16) .servo1 ∧ ((21#16).toInt - (20#16).toNat).natAbs ≤ (1#16).toNat) := by
  unfold EvalReady EvalWritten InRange
  decide

/-- What each fault of BB_EVAL asks for: a reserved bit, servo 2, an unwritten operand, an empty range, a feedback of 101. -/
theorem witness_EvalDrivesOrHolds_faults :
    (opOf 0x50010000#32 = 5 ∧ zOf 0x50010000#32 ≠ 0) ∧ (opOf 0x50000001#32 = 5 ∧ immOf 0x50000001#32 ≠ 0) ∧ 1 < (2#4).toNat ∧
      ¬EvalWritten { servo0State 22#16 20#16 1#16 0#16 1#16 with valid := 0x065#9 } .servo0 ∧
      (fun s : State => EvalWritten s .servo0 ∧ (s.operand (.pwmin .servo0)).toNat ≥ (s.operand (.pwmax .servo0)).toNat)
        (servo0State 22#16 20#16 1#16 1#16 1#16) ∧
      (fun s : State => EvalWritten s .servo1 ∧ (s.operand (.pwmin .servo1)).toNat < (s.operand (.pwmax .servo1)).toNat ∧
        (s.operand (.fb .servo1)).toNat > 100) (servo1State 22#16 101#16 1#16 0#16 1#16) := by
  unfold EvalWritten
  decide

theorem witness_HoldingMapIsTheFloorOfTheLine :
    (0 < 65535 ∧ 100 ≤ 100) ∧ (1 < 2 ∧ 0 ≤ 100) ∧ (99 ≤ 100 ∧ 65535 ≤ 65535) := by decide

theorem witness_HoldEmitsTheHoldingWidth :
    HoldReady { servo0State 0#16 100#16 0#16 0#16 65535#16 with valid := 0x064#9 } .servo0 ∧
      HoldReady (servo1State 0#16 0#16 0#16 1#16 2#16) .servo1 := by
  unfold HoldReady HoldWritten InRange
  decide

/-- What each fault of BB_HOLD asks for, as for BB_EVAL. -/
theorem witness_HoldEmitsTheHoldingWidth_faults :
    (opOf 0x60010000#32 = 6 ∧ zOf 0x60010000#32 ≠ 0) ∧ (opOf 0x60000001#32 = 6 ∧ immOf 0x60000001#32 ≠ 0) ∧ 1 < (2#4).toNat ∧
      ¬HoldWritten { servo0State 22#16 20#16 1#16 0#16 1#16 with valid := 0x071#9 } .servo0 ∧
      (fun s : State => HoldWritten s .servo0 ∧ (s.operand (.pwmin .servo0)).toNat ≥ (s.operand (.pwmax .servo0)).toNat)
        (servo0State 22#16 20#16 1#16 1#16 1#16) ∧
      (fun s : State => HoldWritten s .servo1 ∧ (s.operand (.pwmin .servo1)).toNat < (s.operand (.pwmax .servo1)).toNat ∧
        (s.operand (.fb .servo1)).toNat > 100) (servo1State 22#16 101#16 1#16 0#16 1#16) := by
  unfold HoldWritten
  decide

/-- Each command ends in a next state, with its effect and in a fault; and servo 1 is another servo than servo 0. -/
theorem witness_BangBangFrame :
    (∃ t, exec (.bbEval 0#4) (servo0State 20#16 15#16 0#16 1100#16 1900#16) = .next t) ∧
      (∃ t, exec (.bbHold 0#4) (servo0State 20#16 15#16 0#16 1100#16 1900#16) = .next t) ∧
      (∃ t, exec (.bbEval 2#4) State.reset = .next t) ∧ servoIndex .servo1 ≠ 0#4 :=
  ⟨⟨_, rfl⟩, ⟨_, rfl⟩, ⟨_, rfl⟩, by decide⟩

/-- Two states that agree on servo 0 and differ elsewhere: in `crc`, `ERR` and servo 1. -/
theorem witness_ServosAreIndependent :
    (fun s s' : State => s ≠ s' ∧
      (∀ q ∈ [OpReg.fb .servo0, .pwmin .servo0, .pwmax .servo0], s'.operand q = s.operand q ∧ s'.isValid q = s.isValid q) ∧
      s'.act .servo0 = s.act .servo0 ∧ s'.pwout .servo0 = s.pwout .servo0 ∧
      ∀ q ∈ [OpReg.tgt .servo0, .tol], s'.operand q = s.operand q ∧ s'.isValid q = s.isValid q)
      (servo0State 20#16 15#16 0#16 1100#16 1900#16)
      { servo0State 20#16 15#16 0#16 1100#16 1900#16 with crc := 1#15, err := 4#4, fb1 := 9#16, pwout1 := 8#16 } := by
  decide

/-- Steps that end in a next state: one that emits and writes ACT, one that emits nothing, a reset. -/
theorem witness_OnlyBangBangCommandsEmit :
    (∃ t, step { servo0State 20#16 15#16 0#16 1100#16 1900#16 with inputs := [.command 0x50000000#32] } = .next t ∧
      t.events = [⟨.servo0, 1100#16⟩] ∧ t.act .servo0 ≠ 0#2) ∧
    (∃ t, step (presenting 0x10000000#32) = .next t ∧ t.events = []) ∧
    ∃ t, step { State.reset with pwout0 := 5#16, act1 := 1#2, inputs := [.reset] } = .next t ∧ t.pwout .servo0 = 0#16 ∧ t.act .servo1 = 0#2 :=
  ⟨⟨_, rfl, by decide, by decide⟩, ⟨_, rfl, rfl⟩, _, rfl, rfl, rfl⟩

/-- A CRC_CHECK, a SETR that completes and a SETR that faults. -/
theorem witness_OtherCommandsAreIdempotent :
    (∃ f, Instr.crcCheck 5#16 = .crcCheck f) ∧ (∃ r v, Instr.setr 4#4 7#16 = .setr r v) ∧ ∃ r v, Instr.setr 3#4 7#16 = .setr r v :=
  ⟨⟨_, rfl⟩, ⟨_, _, rfl⟩, _, _, rfl⟩

theorem witness_ResampleReachesTheHold :
    EvalReady (servo0State 20#16 15#16 0#16 1100#16 1900#16) .servo0 ∧ (100#16).toNat ≤ 100 := by
  unfold EvalReady EvalWritten InRange
  decide

theorem witness_TickEmitsDrivesThenHolds :
    Calibrated calibratedState ∧ (100#16).toNat ≤ 100 ∧ (0#16).toNat ≤ 100 := by
  refine ⟨⟨?_, by decide, by decide⟩, by decide, by decide⟩
  rintro (_ | _) <;> decide

theorem witness_ResetClearsEveryRegister :
    ({ calibratedState with err := 6#4, matched := true, inputs := [.reset, .read 1#4] } : State).inputs = .reset :: [.read 1#4] :=
  rfl

theorem witness_LoadcalCalibrates : (0#16).toNat < (1#16).toNat ∧ (65534#16).toNat < (65535#16).toNat := by decide

theorem witness_StepKeepsCrcTheChecksumOfItsStream :
    ∃ t, CrcTracksStream (presenting 0x20000001#32) ∧ step (presenting 0x20000001#32) = .next t ∧ t.crcStream = [1#8] :=
  ⟨_, rfl, rfl, rfl⟩

theorem witness_StepKeepsErrTheFirstFault :
    ∃ t, ErrIsFirstFault (presenting 0x70000000#32) ∧ step (presenting 0x70000000#32) = .next t ∧ t.err = 1#4 :=
  ⟨_, rfl, rfl, rfl⟩

/-- A state that no reset has touched since its two emissions, whose next command emits a third. -/
theorem witness_StepKeepsPwoutTheLastEmittedWidth :
    (fun s : State => (∃ t, PwoutIsLastEmitted s ∧ step s = .next t ∧ t.pwout .servo0 = 1100#16))
      { servo0State 20#16 15#16 0#16 1100#16 1900#16 with
        pwout0 := 7#16, pwout1 := 9#16, inputs := [.command 0x50000000#32], history := [.act ⟨.servo0, 7#16⟩, .ok, .act ⟨.servo1, 9#16⟩, .ok] } :=
  ⟨_, fun sv => by cases sv <;> decide, rfl, by decide⟩

theorem witness_StepKeepsValidMeaningful :
    (fun s : State => (∃ t, UnwrittenOperandsAreZero s ∧ DecisionNeedsOperands s ∧ step s = .next t ∧ t.act .servo0 ≠ 0#2))
      { servo0State 20#16 15#16 0#16 1100#16 1900#16 with inputs := [.command 0x50000000#32] } := by
  refine ⟨_, ?_, ?_, rfl, by decide⟩
  · rintro ((_ | _) | (_ | _) | _ | (_ | _) | (_ | _)) <;> decide
  · rintro (_ | _) <;> decide

end Sys2Proof.Tests
end

section
/-! SUPPORT. The next states a command and a step can have, as inductive relations: a fact about every step is a case split
over their constructors. -/

namespace Sys2Proof.Machine

/-- `Completes s i t`: the command `i` can end Ok from `s`, its checks passed, in the state `t`. -/
inductive Completes (s : State) : Instr → State → Prop where
  | crcInit : Completes s .crcInit ((s.setCrc Config.crcInitValue []).record .ok)
  | crcByte (b : Byte) : Completes s (.crcByte b) ((s.setCrc (crc15Step s.crc b) (s.crcStream ++ [b])).record .ok)
  | crcCheck (f : Half) : Completes s (.crcCheck f) ((s.setMatched (footerMatches s.crc f)).record .ok)
  | setr (q : OpReg) (v : Half) :
      Completes s (.setr (opRegIndex q) v) (((s.writeOperand q v).markValid q).record .ok)
  | bbEval (sv : Servo) (ready : operandFault s sv (evalOperands sv) = none) :
      Completes s (.bbEval (servoIndex sv)) ((evalServo s sv).record .ok)
  | bbHold (sv : Servo) (ready : operandFault s sv (holdOperands sv) = none) :
      Completes s (.bbHold (servoIndex sv)) ((emitAct s sv (holdWidth s sv)).record .ok)

theorem onServo_next {r : RegIdx} {reads : Servo → List OpReg} {effect : State → Servo → State} {s t : State}
    (h : onServo r reads effect s = .next t) :
    (∃ c, t = raiseFault c s) ∨
      ∃ sv, r = servoIndex sv ∧ operandFault s sv (reads sv) = none ∧ t = (effect s sv).record .ok := by
  obtain ⟨-, hx⟩ | ⟨_, c, -, -, hx⟩ | ⟨sv, hr, ready, hx⟩ := onServo_cases (r := r) (reads := reads) (effect := effect)
    (s := s) <;> cases hx.symm.trans h
  · exact .inl ⟨.badIndex, rfl⟩
  · exact .inl ⟨c, rfl⟩
  · exact .inr ⟨sv, hr, ready, rfl⟩

/-- A command ends in a fault, or it completes. -/
theorem exec_next {i : Instr} {s t : State} (h : exec i s = .next t) :
    (∃ c, t = raiseFault c s) ∨ Completes s i t := by
  cases i with
  | crcInit => cases h; exact .inr .crcInit
  | crcByte b => cases h; exact .inr (.crcByte b)
  | crcCheck f => cases h; exact .inr (.crcCheck f)
  | setr r v =>
    have h : execSetr r v s = .next t := h
    obtain ⟨-, hx⟩ | ⟨q, rfl, hx⟩ := execSetr_cases (r := r) (v := v) (s := s) <;> cases hx.symm.trans h
    · exact .inl ⟨.badIndex, rfl⟩
    · exact .inr (.setr q v)
  | bbEval r =>
    obtain hfault | ⟨sv, rfl, ready, rfl⟩ := onServo_next h
    · exact .inl hfault
    · exact .inr (.bbEval sv ready)
  | bbHold r =>
    obtain hfault | ⟨sv, rfl, ready, rfl⟩ := onServo_next (effect := fun s sv => emitAct s sv (holdWidth s sv)) h
    · exact .inl hfault
    · exact .inr (.bbHold sv ready)

/-- `StepsTo s t`: what a step from `s` to `t` has done. A word's fault is the decoder's or its command's own: both leave the
same state but for the code. -/
inductive StepsTo (s : State) : State → Prop where
  | held (empty : s.inputs = []) : StepsTo s s
  | read {idx : RegIdx} {rest : List PortInput} (input : s.inputs = .read idx :: rest) :
      StepsTo s (readPort idx { s with inputs := rest })
  | reset {rest : List PortInput} (input : s.inputs = .reset :: rest) : StepsTo s (resetEvent { s with inputs := rest })
  | faulted {w : Word} {rest : List PortInput} (c : FaultCode) (input : s.inputs = .command w :: rest) :
      StepsTo s (raiseFault c { s with inputs := rest })
  | completed {w : Word} {rest : List PortInput} {i : Instr} {t : State} (input : s.inputs = .command w :: rest)
      (decoded : decode w = .ok i) (done : Completes { s with inputs := rest } i t) : StepsTo s t

theorem step_next {s t : State} (h : step s = .next t) : StepsTo s t := by
  obtain ⟨empty, hx⟩ | ⟨idx, rest, input, hx⟩ | ⟨rest, input, hx⟩ | ⟨w, rest, i, input, decoded, hx⟩ |
    ⟨w, rest, c, input, -, hx⟩ := step_cases (s := s)
  · cases hx.symm.trans h
    exact .held empty
  · cases hx.symm.trans h
    exact .read input
  · cases hx.symm.trans h
    exact .reset input
  · obtain ⟨c, rfl⟩ | done := exec_next (hx.symm.trans h)
    · exact .faulted c input
    · exact .completed input decoded done
  · cases hx.symm.trans h
    exact .faulted c input

end Sys2Proof.Machine
end

section
/-! SUPPORT. What the state's registers read, and who writes the registers of the CRC unit and of the BB unit. -/

namespace Sys2Proof.Machine

/-! ## The read values put together from fields (R31, R33) -/

@[simp] theorem footerValue_toNat (c : CrcWord) : (footerValue c).toNat = c.toNat := by
  have := c.isLt
  simp only [footerValue, BitVec.toNat_setWidth]
  omega

theorem statusWord_toNat (err : BitVec 4) (b : Bool) : (statusWord err b).toNat = 16 * err.toNat + b.toNat := by
  revert err b; decide

theorem validWord_toNat (v : BitVec 9) : (validWord v).toNat = v.toNat :=
  (BitVec.toNat_append 0#7 v).trans (by simp)

theorem actWord_toNat (a b : BitVec 2) : (actWord a b).toNat = 4 * a.toNat + b.toNat := by
  revert a b; decide

/-- A read value below `2 ^ n` has no bit from `n` on. -/
theorem getLsbD_eq_false_of_toNat_lt {w n k : Nat} {x : BitVec w} (hx : x.toNat < 2 ^ n) (hk : n ≤ k) : x.getLsbD k = false :=
  Nat.testBit_lt_two_pow (hx.trans_le (Nat.pow_le_pow_right (by decide) hk))

/-- STATUS is 0 outside bits 7:4 and bit 0. -/
theorem statusWord_getLsbD_eq_false (err : BitVec 4) (b : Bool) {k : Nat} (hk : (1 ≤ k ∧ k ≤ 3) ∨ 8 ≤ k) :
    (statusWord err b).getLsbD k = false := by
  rcases hk with ⟨hlow, hhigh⟩ | hk
  · have hk : k = 1 ∨ k = 2 ∨ k = 3 := by omega
    rcases hk with rfl | rfl | rfl <;> revert err b <;> decide
  · have hlt : (statusWord err b).toNat < 2 ^ 8 := by
      have := err.isLt
      have := b.toNat_lt
      rw [statusWord_toNat]
      omega
    exact getLsbD_eq_false_of_toNat_lt hlt hk

/-- CRC_CHECK's comparison of all 16 bits is the comparison of the numbers (R83). -/
theorem footerMatches_eq_true_iff (c : CrcWord) (f : Half) : footerMatches c f = true ↔ c.toNat = f.toNat := by
  simp [footerMatches, BitVec.toNat_eq]

/-! ## The read port's view of the operand registers -/

/-- The read port gives an operand register at its index (R31, R32). -/
@[simp] theorem rd_opRegIndex (s : State) (q : OpReg) : rd s (opRegIndex q) = s.operand q := by
  rcases q with (_ | _) | (_ | _) | _ | (_ | _) | (_ | _) <;> rfl

theorem opRegIndex_bounds (q : OpReg) : 4 ≤ (opRegIndex q).toNat ∧ (opRegIndex q).toNat ≤ 12 := by
  rcases q with (_ | _) | (_ | _) | _ | (_ | _) | (_ | _) <;> decide

/-- An operand register's VALID bit stands at its index less 4 (R31). -/
theorem validBit_eq (q : OpReg) : validBit q = (opRegIndex q).toNat - 4 := by
  rcases q with (_ | _) | (_ | _) | _ | (_ | _) | (_ | _) <;> rfl

/-- A fault is seen in STATUS alone (R122). -/
theorem rd_raiseFault (c : FaultCode) (s : State) {j : RegIdx} (hj : j ≠ 0x1#4) : rd (raiseFault c s) j = rd s j := by
  have hj : j.toNat ≠ 1 := fun h => hj (BitVec.eq_of_toNat_eq h)
  unfold rd
  split
  case h_2 => contradiction
  all_goals rfl

/-- A SETR of an index that is no writable register is the BAD_INDEX fault (R91, R117). -/
theorem exec_setr_of_not_writable {r : RegIdx} (hr : r.toNat < 4 ∨ 12 < r.toNat) (v : Half) (s : State) :
    exec (.setr r v) s = .next (raiseFault .badIndex s) := by
  have hnone := (opRegOfIndex_eq_none r).mpr hr
  simp [exec, execSetr, hnone, takeFault]

/-! ## The registers of a servo after a reset -/

@[simp] theorem resetEvent_pwout (s : State) (sv : Servo) : (resetEvent s).pwout sv = 0#16 := by cases sv <;> rfl

@[simp] theorem resetEvent_act (s : State) (sv : Servo) : (resetEvent s).act sv = 0#2 := by cases sv <;> rfl

/-! ## The sequence of events after each operation (R28) -/

/-- Two states with the same history have emitted the same events. -/
theorem State.events_congr {s t : State} (h : t.history = s.history) : t.events = s.events := by
  simp [State.events, h]

@[simp] theorem State.withInputs_events (s : State) (ps : List PortInput) :
    ({ s with inputs := ps } : State).events = s.events := rfl

@[simp] theorem State.setCrc_events (s : State) (c : CrcWord) (bs : List Byte) : (s.setCrc c bs).events = s.events := rfl

@[simp] theorem State.setMatched_events (s : State) (b : Bool) : (s.setMatched b).events = s.events := rfl

@[simp] theorem State.writeOperand_events (s : State) (q : OpReg) (v : Half) : (s.writeOperand q v).events = s.events :=
  State.events_congr (by simp)

@[simp] theorem State.markValid_events (s : State) (q : OpReg) : (s.markValid q).events = s.events := rfl

@[simp] theorem State.setAct_events (s : State) (sv : Servo) (a : BitVec 2) : (s.setAct sv a).events = s.events :=
  State.events_congr (by simp)

@[simp] theorem State.record_ok_events (s : State) : (s.record .ok).events = s.events := by
  simp [State.events]

@[simp] theorem emitAct_events (s : State) (sv : Servo) (pw : Half) : (emitAct s sv pw).events = s.events ++ [⟨sv, pw⟩] := by
  simp [State.events]

@[simp] theorem raiseFault_events (c : FaultCode) (s : State) : (raiseFault c s).events = s.events := by
  simp [State.events]

@[simp] theorem readPort_events (idx : RegIdx) (s : State) : (readPort idx s).events = s.events := by
  simp [State.events]

@[simp] theorem resetEvent_events (s : State) : (resetEvent s).events = s.events := by
  simp [State.events]

/-! ## BB_EVAL's effect on a servo -/

/-- No decision's code is 0, the value that means no decision (R20). -/
@[simp] theorem decisionBits_ne_zero (d : Decision) : decisionBits d ≠ 0#2 := by cases d <;> decide

/-- A decision emits nothing or one event for its servo (R98, R99). -/
theorem driveServo_cases (s : State) (sv : Servo) (d : Decision) :
    driveServo s sv d = s ∨ ∃ pw, driveServo s sv d = emitAct s sv pw := by
  cases d with
  | hold => exact .inl rfl
  | driveMin => exact .inr ⟨_, rfl⟩
  | driveMax => exact .inr ⟨_, rfl⟩

/-- BB_EVAL writes ACT of its servo and, if it does not hold, emits one event for it (R99, R100). -/
theorem evalServo_cases (s : State) (sv : Servo) :
    evalServo s sv = s.setAct sv (decisionBits (evalDecision s sv)) ∨
      ∃ pw, evalServo s sv = emitAct (s.setAct sv (decisionBits (evalDecision s sv))) sv pw :=
  driveServo_cases _ sv _

@[simp] theorem evalServo_crc (s : State) (sv : Servo) : (evalServo s sv).crc = s.crc := by
  obtain h | ⟨pw, h⟩ := evalServo_cases s sv <;> simp [h]

@[simp] theorem evalServo_matched (s : State) (sv : Servo) : (evalServo s sv).matched = s.matched := by
  obtain h | ⟨pw, h⟩ := evalServo_cases s sv <;> simp [h]

theorem evalServo_act (s : State) (sv sw : Servo) :
    (evalServo s sv).act sw = if sw = sv then decisionBits (evalDecision s sv) else s.act sw := by
  obtain h | ⟨pw, h⟩ := evalServo_cases s sv <;> simp [h, State.act_setAct]

/-! ## Who writes what, command by command -/

theorem Completes.crc {s t : State} {i : Instr} (done : Completes s i t) :
    t.crc = s.crc ∨ (i = .crcInit ∧ t.crc = 0#15) ∨ ∃ b, i = .crcByte b ∧ t.crc = crc15Step s.crc b := by
  cases done with
  | crcInit => exact .inr (.inl ⟨rfl, rfl⟩)
  | crcByte b => exact .inr (.inr ⟨b, rfl, rfl⟩)
  | crcCheck f => exact .inl rfl
  | setr q v => exact .inl (by simp)
  | bbEval sv => exact .inl (by simp)
  | bbHold sv => exact .inl (by simp)

theorem Completes.matched {s t : State} {i : Instr} (done : Completes s i t) :
    t.matched = s.matched ∨ ∃ f, i = .crcCheck f ∧ t.matched = footerMatches s.crc f := by
  cases done with
  | crcInit => exact .inl rfl
  | crcByte b => exact .inl rfl
  | crcCheck f => exact .inr ⟨f, rfl, rfl⟩
  | setr q v => exact .inl (by simp)
  | bbEval sv => exact .inl (by simp)
  | bbHold sv => exact .inl (by simp)

/-- From `s` to `t` nothing is emitted and no PWOUT written. -/
def EmitsNothing (s t : State) : Prop := t.events = s.events ∧ ∀ sv : Servo, t.pwout sv = s.pwout sv

/-- From `s` to `t` the one event emitted is `e`, and the only PWOUT written is that of its servo, with its width (R27). -/
def Emits (e : ActEvent) (s t : State) : Prop :=
  t.events = s.events ++ [e] ∧ t.pwout e.servo = e.width ∧ ∀ sv : Servo, sv ≠ e.servo → t.pwout sv = s.pwout sv

theorem emits_emitAct (s : State) (sv : Servo) (pw : Half) : Emits ⟨sv, pw⟩ s ((emitAct s sv pw).record .ok) :=
  ⟨by simp, by simp [emitAct_pwout], fun sw hsw => by simp [emitAct_pwout, hsw]⟩

theorem Completes.emits {s t : State} {i : Instr} (done : Completes s i t) :
    EmitsNothing s t ∨ ∃ e, (i = .bbEval (servoIndex e.servo) ∨ i = .bbHold (servoIndex e.servo)) ∧ Emits e s t := by
  cases done with
  | crcInit => exact .inl ⟨by simp, by simp⟩
  | crcByte b => exact .inl ⟨by simp, by simp⟩
  | crcCheck f => exact .inl ⟨by simp, by simp⟩
  | setr q v => exact .inl ⟨by simp, by simp⟩
  | bbEval sv =>
    obtain h | ⟨pw, h⟩ := evalServo_cases s sv
    · exact .inl ⟨by simp [h], by simp [h]⟩
    · refine .inr ⟨⟨sv, pw⟩, .inl rfl, ?_⟩
      simpa [h, Emits] using emits_emitAct (s.setAct sv (decisionBits (evalDecision s sv))) sv pw
  | bbHold sv => exact .inr ⟨⟨sv, _⟩, .inr rfl, emits_emitAct s sv _⟩

theorem Completes.act {s t : State} {i : Instr} (done : Completes s i t) (sw : Servo) :
    t.act sw = s.act sw ∨ (i = .bbEval (servoIndex sw) ∧ t.act sw ≠ 0#2) := by
  cases done with
  | crcInit => exact .inl (by simp)
  | crcByte b => exact .inl (by simp)
  | crcCheck f => exact .inl (by simp)
  | setr q v => exact .inl (by simp)
  | bbEval sv =>
    by_cases hsw : sw = sv
    · subst hsw
      exact .inr ⟨rfl, by simp [evalServo_act]⟩
    · exact .inl (by simp [evalServo_act, hsw])
  | bbHold sv => exact .inl (by simp)

end Sys2Proof.Machine
end

section
/-! The statements of 10_state.md on registers and their writers. -/

namespace Sys2Proof

open Machine Safety

/-- Settles O37: index 3 is the constant 0, and each other read value is a number too small for its high bits; STATUS bits 3:1
lie between its two fields. -/
theorem reservedRegisterBitsReadZero : Obligations.ReservedRegisterBitsReadZero := by
  intro s k
  refine ⟨BitVec.getLsbD_zero, fun hk => statusWord_getLsbD_eq_false _ _ hk, fun hk => ?_, fun hk => ?_⟩
  · have hlt : (validWord s.valid).toNat < 2 ^ 9 := by rw [validWord_toNat]; exact s.valid.isLt
    exact getLsbD_eq_false_of_toNat_lt hlt hk
  · have hlt : (actWord s.act1 s.act0).toNat < 2 ^ 4 := by
      have := s.act1.isLt
      have := s.act0.isLt
      rw [actWord_toNat]
      omega
    exact getLsbD_eq_false_of_toNat_lt hlt hk

/-- Settles O36: each index by its rd case; a SETR outside 4..12 is the BAD_INDEX fault, seen in STATUS alone. -/
theorem registerIndexMap : Obligations.RegisterIndexMap := by
  intro s
  refine ⟨⟨footerValue_toNat _, statusWord_toNat _ _, validWord_toNat _, rfl, rfl, rfl, actWord_toNat _ _⟩,
    ⟨rfl, rfl, rfl, rfl, rfl, rfl, rfl, rfl, rfl⟩, fun q => ?_, fun r v hr => ?_⟩
  · obtain ⟨hlow, hhigh⟩ := opRegIndex_bounds q
    exact ⟨rd_opRegIndex s q, hlow, hhigh, by rw [State.isValid, validBit_eq]⟩
  · exact ⟨_, exec_setr_of_not_writable hr v s, fun j hj => rd_raiseFault _ s hj⟩

/-- Settles O35: by the cases of a step, and for a completed command by what it does to `crc` and `MATCH`. -/
theorem crcUnitHasNoOtherWriter : Obligations.CrcUnitHasNoOtherWriter := by
  refine ⟨fun s t h => ?_, fun s v => exec_setr_of_not_writable (by decide) v s⟩
  cases step_next h with
  | held => exact ⟨.inl rfl, .inl rfl⟩
  | read => exact ⟨.inl rfl, .inl rfl⟩
  | reset input => exact ⟨.inr (.inl ⟨by simp [input], rfl⟩), .inr (.inl ⟨by simp [input], rfl⟩)⟩
  | faulted => exact ⟨.inl rfl, .inl rfl⟩
  | @completed w rest i _ input decoded done =>
    constructor
    · obtain hcrc | ⟨rfl, hcrc⟩ | ⟨b, rfl, hcrc⟩ := done.crc
      · exact .inl hcrc
      · exact .inr (.inr ⟨w, rest, input, .inl ⟨decoded, hcrc⟩⟩)
      · exact .inr (.inr ⟨w, rest, input, .inr ⟨b, decoded, hcrc⟩⟩)
    · obtain hmatched | ⟨f, rfl, hmatched⟩ := done.matched
      · exact .inl hmatched
      · exact .inr (.inr ⟨w, rest, f, input, decoded, hmatched ▸ footerMatches_eq_true_iff _ f⟩)

/-- Settles O48: by the cases of a step, and for a completed command by what it emits and what it does to ACT. -/
theorem onlyBangBangCommandsEmit : Obligations.OnlyBangBangCommandsEmit := by
  intro s t h
  cases step_next h with
  | held => exact ⟨.inl ⟨rfl, fun _ => rfl⟩, fun _ => .inl rfl⟩
  | read => exact ⟨.inl ⟨by simp, by simp⟩, fun sv => .inl (by simp)⟩
  | reset input =>
    have hreset : s.inputs.head? = some .reset := by simp [input]
    exact ⟨.inr (.inl ⟨hreset, by simp, by simp⟩), fun sv => .inr (.inl ⟨hreset, by simp⟩)⟩
  | faulted => exact ⟨.inl ⟨by simp, by simp⟩, fun sv => .inl (by simp)⟩
  | @completed w rest i _ input decoded done =>
    constructor
    · obtain ⟨hevents, hpwout⟩ | ⟨e, hi, hevents, hwidth, hother⟩ := done.emits
      · exact .inl ⟨hevents, fun sv => by simp [hpwout]⟩
      · have hdec := hi.imp (fun hi => hi ▸ decoded) (fun hi => hi ▸ decoded)
        exact .inr (.inr ⟨w, rest, e, input, hdec, hevents, hwidth, fun sv hsv => by simp [hother sv hsv]⟩)
    · intro sv
      obtain hact | ⟨rfl, hact⟩ := done.act sv
      · exact .inl (by simp [hact])
      · exact .inr (.inr ⟨w, rest, input, decoded, hact⟩)

end Sys2Proof
end

section
/-! SUPPORT. The bytes of a word on a byte carrier and of a footer on the wire, and what a read leaves unchanged
(20_memory.md R40, R41, R42, R44). -/

namespace Sys2Proof

/-- The byte from bit `k` up, as a number. -/
theorem byteFrom_toNat {n : Nat} (x : BitVec n) (k : Nat) : (x.extractLsb' k 8).toNat = x.toNat / 2 ^ k % 256 := by
  rw [BitVec.extractLsb'_toNat, Nat.shiftRight_eq_div_pow]

/-- The four bytes a carrier sends, joined in their order, are the word (R44). -/
theorem wordOfCarrier_bytes (w : Word) :
    wordOfCarrier (w.extractLsb' 24 8) (w.extractLsb' 16 8) (w.extractLsb' 8 8) (w.extractLsb' 0 8) = w := by
  have htop : w.extractLsb' 24 8 ++ w.extractLsb' 16 8 = w.extractLsb' 16 16 :=
    BitVec.extractLsb'_append_extractLsb'_eq_extractLsb' rfl
  have hupper : w.extractLsb' 16 16 ++ w.extractLsb' 8 8 = w.extractLsb' 8 24 :=
    BitVec.extractLsb'_append_extractLsb'_eq_extractLsb' rfl
  have hwhole : w.extractLsb' 8 24 ++ w.extractLsb' 0 8 = w := BitVec.extractLsb'_append_extractLsb' (w := 24)
  rw [wordOfCarrier, htop, hupper, hwhole]

/-- Decoding takes the four bytes of a word and leaves the bytes that follow. -/
theorem decodeBytes_carrierOfWord_append (w : Word) (rest : List Byte) :
    decodeBytes (carrierOfWord w ++ rest) = some (decode w, rest) := by
  have hword := wordOfCarrier_bytes w
  simp only [carrierOfWord, List.cons_append, List.nil_append, decodeBytes, hword]

namespace Machine

/-- The two bytes of a footer, assembled in their wire order, are the footer (R40, R42). -/
theorem assembleFooter_bytes (f : Half) : assembleFooter (f.extractLsb' 8 8) (f.extractLsb' 0 8) = f :=
  BitVec.extractLsb'_append_extractLsb' (w := 8)

/-- Exchanging the two bytes of a footer is seen exactly if they differ. -/
theorem assembleFooter_swap_eq_iff (hi lo : Byte) : assembleFooter lo hi = assembleFooter hi lo ↔ hi = lo := by
  constructor
  · intro h
    have hlow := congrArg (BitVec.extractLsb' 0 8) h
    rwa [assembleFooter, assembleFooter, BitVec.extractLsb'_append_eq_right, BitVec.extractLsb'_append_eq_right] at hlow
  · rintro rfl
    rfl

/-- A step on a read input puts the register out, with the input taken (R41). -/
theorem step_of_read {s : State} {idx : RegIdx} {rest : List PortInput} (input : s.inputs = .read idx :: rest) :
    step s = .next (readPort idx { s with inputs := rest }) := by
  simp [step, takeInput, input]

/-- The read port does not see the inputs still to be taken. -/
@[simp] theorem rd_withInputs (s : State) (ps : List PortInput) (j : RegIdx) :
    rd { s with inputs := ps } j = rd s j := rfl

/-- The read port does not see the observation history. -/
@[simp] theorem rd_record (s : State) (o : Obs) (j : RegIdx) : rd (s.record o) j = rd s j := rfl

/-- Every index reads after a read as before it (R41). -/
@[simp] theorem rd_readPort (idx : RegIdx) (s : State) (j : RegIdx) : rd (readPort idx s) j = rd s j := rd_record s _ j

end Machine

end Sys2Proof
end

section
/-! The statements of 20_memory.md on byte order and the read port. -/

namespace Sys2Proof

open Machine

/-- Settles O6: each byte is a quotient and a remainder of the word, and the four joined are the word that is decoded. -/
theorem carrierSendsHighByteFirst : Obligations.CarrierSendsHighByteFirst := by
  intro w rest
  have htop : w.toNat / 2 ^ 24 % 256 = w.toNat / 2 ^ 24 := Nat.mod_eq_of_lt (by have := w.isLt; omega)
  refine ⟨?_, decodeBytes_carrierOfWord_append w rest⟩
  simp only [carrierOfWord, List.map_cons, List.map_nil, byteFrom_toNat, htop, Nat.pow_zero, Nat.div_one]

/-- Settles O29: the value is below `2 ^ 15`, so its high byte is below 0x80; its two bytes are assembled back. -/
theorem footerIsBigEndianOnTheWire : Obligations.FooterIsBigEndianOnTheWire := by
  intro c
  have hc := c.isLt
  have hback := assembleFooter_bytes (footerValue c)
  have hhi : ((footerValue c).extractLsb' 8 8).toNat = c.toNat / 256 := by
    rw [byteFrom_toNat, footerValue_toNat]
    omega
  have hlo : ((footerValue c).extractLsb' 0 8).toNat = c.toNat % 256 := by
    rw [byteFrom_toNat, footerValue_toNat, Nat.pow_zero, Nat.div_one]
  have hswap := assembleFooter_swap_eq_iff ((footerValue c).extractLsb' 8 8) ((footerValue c).extractLsb' 0 8)
  rw [hback] at hswap
  exact ⟨_, _, rfl, hhi, by omega, hlo, hback, hswap⟩

/-- Settles O38: the step is the read port's, which writes the history alone and records no event there. -/
theorem readHasNoSideEffect : Obligations.ReadHasNoSideEffect := by
  intro s idx rest input
  exact ⟨readPort idx { s with inputs := rest }, step_of_read input, rfl, by simp, by simp⟩

end Sys2Proof
end

section
/-! SUPPORT. The decoder opcode by opcode, on a word's fields as numbers (30_encoding.md R54, R63). -/

namespace Sys2Proof

open Safety

/-! ## Fields as numbers -/

/-- A field has a bit that is 1 exactly if its number is not 0. -/
theorem bne_zero_eq_decide_toNat {n : Nat} (x : BitVec n) : (x != 0) = decide (x.toNat ≠ 0) := by
  rw [Bool.eq_iff_iff]
  simp [BitVec.toNat_eq]

@[simp] theorem ofNat_rOf (w : Word) : BitVec.ofNat 4 (rOf w) = rField w := by
  rw [rOf_eq_toNat, BitVec.ofNat_toNat, BitVec.setWidth_eq]

@[simp] theorem ofNat_immOf (w : Word) : BitVec.ofNat 16 (immOf w) = immField w := by
  rw [immOf_eq_toNat, BitVec.ofNat_toNat, BitVec.setWidth_eq]

/-- CRC_BYTE's data byte is its immediate modulo 256 (R57). -/
@[simp] theorem ofNat_immOf_eq_immLow (w : Word) : BitVec.ofNat 8 (immOf w) = immLow w :=
  BitVec.eq_of_toNat_eq (immLow_toNat w).symm

/-! ## One equation per opcode

Each names the command and the fields R56 requires to be 0, in R63's order. -/

section
variable {w : Word}

theorem decode_of_opOf_eq_one (h : opOf w = 1) :
    decode w = unlessReserved (decide (zOf w ≠ 0 ∨ rOf w ≠ 0 ∨ immOf w ≠ 0)) .crcInit := by
  simp only [decode, ← opOf_eq_toNat, h, bne_zero_eq_decide_toNat, ← Bool.decide_or, or_assoc, zOf_eq_toNat, rOf_eq_toNat,
    immOf_eq_toNat]

theorem decode_of_opOf_eq_two (h : opOf w = 2) :
    decode w = unlessReserved (decide (zOf w ≠ 0 ∨ rOf w ≠ 0 ∨ immOf w / 256 ≠ 0)) (.crcByte (immLow w)) := by
  simp only [decode, ← opOf_eq_toNat, h, bne_zero_eq_decide_toNat, ← Bool.decide_or, or_assoc, zOf_eq_toNat, rOf_eq_toNat,
    immHigh_toNat]

theorem decode_of_opOf_eq_three (h : opOf w = 3) :
    decode w = unlessReserved (decide (zOf w ≠ 0 ∨ rOf w ≠ 0)) (.crcCheck (immField w)) := by
  simp only [decode, ← opOf_eq_toNat, h, bne_zero_eq_decide_toNat, ← Bool.decide_or, zOf_eq_toNat, rOf_eq_toNat]

theorem decode_of_opOf_eq_four (h : opOf w = 4) :
    decode w = unlessReserved (decide (zOf w ≠ 0)) (.setr (rField w) (immField w)) := by
  simp only [decode, ← opOf_eq_toNat, h, bne_zero_eq_decide_toNat, zOf_eq_toNat]

theorem decode_of_opOf_eq_five (h : opOf w = 5) :
    decode w = unlessReserved (decide (zOf w ≠ 0 ∨ immOf w ≠ 0)) (.bbEval (rField w)) := by
  simp only [decode, ← opOf_eq_toNat, h, bne_zero_eq_decide_toNat, ← Bool.decide_or, zOf_eq_toNat, immOf_eq_toNat]

theorem decode_of_opOf_eq_six (h : opOf w = 6) :
    decode w = unlessReserved (decide (zOf w ≠ 0 ∨ immOf w ≠ 0)) (.bbHold (rField w)) := by
  simp only [decode, ← opOf_eq_toNat, h, bne_zero_eq_decide_toNat, ← Bool.decide_or, zOf_eq_toNat, immOf_eq_toNat]

theorem decode_of_opOf_illegal (h : ¬(1 ≤ opOf w ∧ opOf w ≤ 6)) : decode w = .error .illegalOpcode :=
  decode_illegal (by rw [← opOf_eq_toNat]; omega)

/-! ## The whole decoder -/

/-- The index check comes after the check of the reserved bits (R63). -/
theorem decodeChecked_of_unlessReserved {p : Prop} [Decidable p] {i : Instr} (h : decode w = unlessReserved (decide p) i) :
    decodeChecked w = if p then .error .reservedBits else if ¬i.WellFormed then .error .badIndex else .ok i := by
  by_cases hp : p
  · simp [decodeChecked, h, unlessReserved, hp]
  · by_cases hi : i.WellFormed <;> simp [decodeChecked, h, unlessReserved, hp, hi]

theorem decodeChecked_of_opOf_illegal (h : ¬(1 ≤ opOf w ∧ opOf w ≤ 6)) : decodeChecked w = .error .illegalOpcode := by
  simp [decodeChecked, decode_of_opOf_illegal h]

end

/-! ## Index checks as numbers (R56, R60) -/

@[simp] theorem crcInit_wellFormed : Instr.crcInit.WellFormed := rfl

@[simp] theorem crcByte_wellFormed (b : Byte) : (Instr.crcByte b).WellFormed := rfl

@[simp] theorem crcCheck_wellFormed (f : Half) : (Instr.crcCheck f).WellFormed := rfl

@[simp] theorem setr_wellFormed_iff (w : Word) (v : Half) : (Instr.setr (rField w) v).WellFormed ↔ 4 ≤ rOf w ∧ rOf w ≤ 12 := by
  simp [Instr.WellFormed, Instr.wellFormed, rOf_eq_toNat]

@[simp] theorem bbEval_wellFormed_iff (w : Word) : (Instr.bbEval (rField w)).WellFormed ↔ rOf w ≤ 1 := by
  simp [Instr.WellFormed, Instr.wellFormed, rOf_eq_toNat]

@[simp] theorem bbHold_wellFormed_iff (w : Word) : (Instr.bbHold (rField w)).WellFormed ↔ rOf w ≤ 1 := by
  simp [Instr.WellFormed, Instr.wellFormed, rOf_eq_toNat]

end Sys2Proof
end

section
/-! SUPPORT. What a sequence of commands does: its parts one after the other, a run of CRC_BYTE, and SETR by register name
(30_encoding.md R66, R68 to R70). -/

namespace Sys2Proof.Machine

theorem runCommands_append {is js : List Instr} {s t : State} (h : runCommands is s = .next t) :
    runCommands (is ++ js) s = runCommands js t := by
  induction is generalizing s with
  | nil => cases h; rfl
  | cons i is ih =>
    cases hi : exec i s with
    | next u =>
      rw [runCommands_cons hi] at h
      rw [List.cons_append, runCommands_cons hi, ih h]
    | fault r => cases r
    | refused r => simp [runCommands, hi] at h

/-! ## Frames -/

/-- The state after one CRC_BYTE for each byte, in order: the fold is continued, and every command ends Ok (R81, R85). -/
def State.feed (s : State) (bs : List Byte) : State :=
  { s with crc := crc15From s.crc bs, crcStream := s.crcStream ++ bs, history := s.history ++ List.replicate bs.length .ok }

theorem State.feed_cons (s : State) (b : Byte) (bs : List Byte) :
    s.feed (b :: bs) = ((s.setCrc (crc15Step s.crc b) (s.crcStream ++ [b])).record .ok).feed bs := by
  simp [State.feed, State.setCrc, State.record, List.replicate_succ]

theorem runCommands_map_crcByte (bs : List Byte) (s : State) : runCommands (bs.map .crcByte) s = .next (s.feed bs) := by
  induction bs generalizing s with
  | nil => simp [runCommands, State.feed]
  | cons b bs ih => rw [State.feed_cons, ← ih]; rfl

/-- The state after CRC_FRAME (R68). -/
def State.afterFrame (s : State) (bs : List Byte) : State :=
  { s with crc := crc15 bs, crcStream := bs, history := s.history ++ List.replicate (bs.length + 1) .ok }

theorem runCommands_crcFrame (bs : List Byte) (s : State) : runCommands (crcFrame bs) s = .next (s.afterFrame bs) := by
  have hinit : exec .crcInit s = .next ((s.setCrc Config.crcInitValue []).record .ok) := rfl
  rw [crcFrame, runCommands_cons hinit, runCommands_map_crcByte]
  simp [State.feed, State.afterFrame, State.setCrc, State.record, List.replicate_succ, crc15]

theorem runCommands_crcVerify (f : Half) (bs : List Byte) (s : State) :
    runCommands (crcVerify f bs) s =
      .next (((s.afterFrame bs).setMatched (footerMatches (crc15 bs) f)).record .ok) := by
  rw [crcVerify, runCommands_append (runCommands_crcFrame bs s)]
  rfl

/-- STATUS bit 0 is MATCH (R33). -/
@[simp] theorem statusWord_getLsbD_zero (err : BitVec 4) (b : Bool) : (statusWord err b).getLsbD 0 = b := by
  revert err b; decide

/-- The host goes on exactly if MATCH is 1 (R149). -/
theorem hostVerdict_eq_goOn_iff (s : State) : hostVerdict s = .goOn ↔ s.matched = true := by
  have hstatus : (rd s 0x1#4).getLsbD 0 = s.matched := statusWord_getLsbD_zero _ _
  rw [hostVerdict, hstatus]
  cases s.matched <;> decide

/-! ## SETR by register name -/

/-- The state after a SETR of a writable register (R91). -/
def State.afterSetr (s : State) (q : OpReg) (v : Half) : State := ((s.writeOperand q v).markValid q).record .ok

theorem State.afterSetr_operand (s : State) (q r : OpReg) (v : Half) :
    (s.afterSetr q v).operand r = if r = q then v else s.operand r := by
  simp [State.afterSetr, State.operand_writeOperand]

theorem State.afterSetr_isValid (s : State) (q r : OpReg) (v : Half) :
    (s.afterSetr q v).isValid r = (decide (r = q) || s.isValid r) := by
  simp [State.afterSetr, State.markValid_isValid]

@[simp] theorem State.afterSetr_history (s : State) (q : OpReg) (v : Half) :
    (s.afterSetr q v).history = s.history ++ [.ok] := by
  simp [State.afterSetr]

theorem exec_setReg (q : OpReg) (v : Half) (s : State) : exec (setReg q v) s = .next (s.afterSetr q v) := by
  simp [exec, setReg, execSetr, complete, State.afterSetr]

theorem runCommands_bbLoadcal (min0 max0 min1 max1 : Half) (s : State) :
    runCommands (bbLoadcal min0 max0 min1 max1) s =
      .next ((((s.afterSetr (.pwmin .servo0) min0).afterSetr (.pwmax .servo0) max0).afterSetr (.pwmin .servo1) min1).afterSetr
        (.pwmax .servo1) max1) := by
  simp [bbLoadcal, runCommands, exec_setReg]

end Sys2Proof.Machine
end

section
/-! The statements of 30_encoding.md on the decoder and the pseudo-instructions. -/

namespace Sys2Proof

open Machine Safety

/-- Settles O3: by the opcode, with the equation of `decode` for it; the first reserved field splits off as the check that all
commands share. -/
theorem decoderIsTotalInCheckOrder : Obligations.DecoderIsTotalInCheckOrder := by
  intro w
  by_cases hop : ¬(1 ≤ opOf w ∧ opOf w ≤ 6)
  · rw [if_pos hop, decodeChecked_of_opOf_illegal hop]
  rw [if_neg hop]
  have hcases : opOf w = 1 ∨ opOf w = 2 ∨ opOf w = 3 ∨ opOf w = 4 ∨ opOf w = 5 ∨ opOf w = 6 := by omega
  obtain h | h | h | h | h | h := hcases
  · rw [decodeChecked_of_unlessReserved (decode_of_opOf_eq_one h), ite_or]
    simp [h]
  · rw [decodeChecked_of_unlessReserved (decode_of_opOf_eq_two h), ite_or]
    simp [h]
  · rw [decodeChecked_of_unlessReserved (decode_of_opOf_eq_three h), ite_or]
    simp [h]
  · rw [decodeChecked_of_unlessReserved (decode_of_opOf_eq_four h)]
    simp [h]
  · rw [decodeChecked_of_unlessReserved (decode_of_opOf_eq_five h), ite_or]
    simp [h]
  · rw [decodeChecked_of_unlessReserved (decode_of_opOf_eq_six h), ite_or]
    simp [h]

/-- Settles O33: the run of CRC_BYTE continues CRC_INIT's fold from 0, and index 0 reads `crc` as a number unchanged. -/
theorem frameLeavesItsFooter : Obligations.FrameLeavesItsFooter := by
  refine ⟨fun bs s => ⟨rfl, s.afterFrame bs, runCommands_crcFrame bs s, rfl, ?_, rfl⟩, fun h0 h1 body => rfl⟩
  exact footerValue_toNat (crc15 bs)

/-- Settles O34: after the frame `crc` is the checksum of the bytes, which CRC_CHECK compares as a number. -/
theorem verifyMatchesExactlyTheFooter : Obligations.VerifyMatchesExactlyTheFooter := by
  intro f bs s
  refine ⟨rfl, _, runCommands_crcVerify f bs s, ?_, hostVerdict_eq_goOn_iff _, rfl, ?_⟩
  · exact (footerMatches_eq_true_iff _ f).trans eq_comm
  · simp [State.afterFrame, List.replicate_succ']

/-- Settles O54: each SETR completes, and its register and VALID bit outlast the writes of the others. -/
theorem loadcalCalibrates : Obligations.LoadcalCalibrates := by
  intro s min0 max0 min1 max1 h0 h1
  refine ⟨rfl, _, runCommands_bbLoadcal min0 max0 min1 max1 s, ⟨fun sv => ?_, h0, h1⟩, ?_⟩
  · cases sv <;> simp [State.afterSetr_isValid]
  · simp [State.afterSetr_operand, List.replicate_succ]

end Sys2Proof
end

section
/-! SUPPORT. The algebra of the CRC functions: one bit step in closed form, linearity, the fold over an append, what the
fold does not see, and the footer's comparison as one of numbers (40_crc15.md R75 to R77, R83, R85, R86). -/

namespace Sys2Proof.Machine

/-! ## One bit step (R75) -/

/-- What a feedback bit adds to the shifted state. -/
def feedbackTerm (fb : Bool) : CrcWord := if fb then Config.crcPoly else 0#15

theorem feedbackTerm_xor (f g : Bool) : feedbackTerm (f ^^ g) = feedbackTerm f ^^^ feedbackTerm g := by
  revert f g; decide

theorem crcBit_eq_xor_feedbackTerm (c : CrcWord) (b : Bool) :
    crcBit c b = (c <<< 1) ^^^ feedbackTerm (b ^^ c.getLsbD 14) := by
  unfold crcBit feedbackTerm
  split <;> simp

/-- Bit 14 of a 15-bit state is its quotient by `2 ^ 14`. -/
theorem getLsbD_fourteen (c : CrcWord) : c.getLsbD 14 = (c.toNat / 2 ^ 14 == 1) := by
  have hc := c.isLt
  have hquot : c.toNat / 2 ^ 14 % 2 = c.toNat / 2 ^ 14 := by omega
  rw [BitVec.getLsbD, Nat.testBit_eq_decide_div_mod_eq, hquot, beq_eq_decide]

/-! ## Linearity (R85) -/

theorem crcBit_xor (c d : CrcWord) (a b : Bool) : crcBit (c ^^^ d) (a ^^ b) = crcBit c a ^^^ crcBit d b := by
  have hfb : ((a ^^ b) ^^ (c ^^^ d).getLsbD 14) = ((a ^^ c.getLsbD 14) ^^ (b ^^ d.getLsbD 14)) := by
    rw [BitVec.getLsbD_xor, Bool.xor_assoc, Bool.xor_assoc, Bool.xor_left_comm b]
  rw [crcBit_eq_xor_feedbackTerm, crcBit_eq_xor_feedbackTerm, crcBit_eq_xor_feedbackTerm, hfb, feedbackTerm_xor,
    BitVec.shiftLeft_xor_distrib]
  ac_rfl

theorem crc15Step_xor (c d : CrcWord) (x y : Byte) : crc15Step (c ^^^ d) (x ^^^ y) = crc15Step c x ^^^ crc15Step d y := by
  simp only [crc15Step_eq_bits, BitVec.getLsbD_xor, crcBit_xor]

theorem crc15From_zipWith_xor (c d : CrcWord) (a e : List Byte) (hlen : a.length = e.length) :
    crc15From (c ^^^ d) (List.zipWith (· ^^^ ·) a e) = crc15From c a ^^^ crc15From d e := by
  induction a generalizing c d e with
  | nil =>
    obtain rfl := List.length_eq_zero_iff.mp hlen.symm
    rfl
  | cons x a ih =>
    cases e with
    | nil => simp at hlen
    | cons y e =>
      rw [List.zipWith_cons_cons, crc15From_cons, crc15Step_xor, ih _ _ e (Nat.succ.inj hlen), crc15From_cons, crc15From_cons]

/-! ## The fold in parts (R77, R85) -/

theorem crc15From_append (c : CrcWord) (p q : List Byte) : crc15From c (p ++ q) = crc15From (crc15From c p) q :=
  List.foldl_append

theorem crc15_append (p q : List Byte) : crc15 (p ++ q) = crc15From (crc15 p) q := crc15From_append _ p q

theorem crc15_cons (x : Byte) (bs : List Byte) : crc15 (x :: bs) = crc15From (crc15Step 0#15 x) bs := rfl

/-! ## Blind spots (R86) -/

/-- A byte step reads bits 0..6 alone (R76). -/
theorem crc15Step_congr (c : CrcWord) {x y : Byte} (h : ∀ i < 7, x.getLsbD i = y.getLsbD i) :
    crc15Step c x = crc15Step c y := by
  rw [crc15Step_eq_bits, crc15Step_eq_bits, h 0 (by decide), h 1 (by decide), h 2 (by decide), h 3 (by decide),
    h 4 (by decide), h 5 (by decide), h 6 (by decide)]

@[simp] theorem crc15Step_xor_bit_seven (c : CrcWord) (x : Byte) : crc15Step c (x ^^^ 0x80#8) = crc15Step c x := by
  refine crc15Step_congr c fun i hi => ?_
  have hbit : ∀ i < 7, (0x80#8).getLsbD i = false := by decide
  rw [BitVec.getLsbD_xor, hbit i hi, Bool.xor_false]

/-- 0 is a fixed point of the step by 0x00 and by 0x80. -/
theorem crc15Step_zero_of_invisible {x : Byte} (hx : x = 0x00#8 ∨ x = 0x80#8) : crc15Step 0#15 x = 0#15 := by
  obtain rfl | rfl := hx <;> decide

theorem crc15_cons_of_invisible {x : Byte} (hx : x = 0x00#8 ∨ x = 0x80#8) (bs : List Byte) : crc15 (x :: bs) = crc15 bs := by
  rw [crc15_cons, crc15Step_zero_of_invisible hx]
  rfl

/-! ## The footer (R83) -/

/-- CRC_CHECK's comparison of all 16 bits is decided on the numbers (R83). -/
theorem footerMatches_eq_decide (c : CrcWord) (f : Half) :
    footerMatches c f = decide (c.toNat = f.toNat) := by
  rw [Bool.eq_iff_iff, decide_eq_true_iff, footerMatches_eq_true_iff]

end Sys2Proof.Machine
end

section
/-! The statements of 40_crc15.md on the CRC functions. -/

namespace Sys2Proof

open Machine

/-- Settles O20: the feedback bit is the input bit against the quotient by `2 ^ 14`, and the shift
is doubling modulo `2 ^ 15`. -/
theorem bitStepArithmetic : Obligations.BitStepArithmetic := by
  intro c b
  have hshift : (c <<< 1).toNat = 2 * c.toNat % 2 ^ 15 := by
    rw [BitVec.toNat_shiftLeft, Nat.shiftLeft_eq, Nat.pow_one, Nat.mul_comm]
  rw [← getLsbD_fourteen, crcBit_eq_xor_feedbackTerm, BitVec.toNat_xor, hshift]
  by_cases hb : b = c.getLsbD 14
  · rw [if_pos hb, hb, Bool.xor_self]
    exact Nat.xor_zero _
  · rw [if_neg hb, Bool.xor_iff_ne.mpr hb]
    rfl

/-- Settles O21: the seven bit steps read bits 0 to 6; the trace is evaluated row by row. -/
theorem byteStepFoldsBitsZeroToSix : Obligations.ByteStepFoldsBitsZeroToSix :=
  ⟨fun c x => ⟨crc15Step_eq_bits c x, crc15Step_xor_bit_seven c x⟩, by decide⟩

/-- Settles O22: a byte at the end is the last step of the fold, and the footer's fold is that of the two parts appended. -/
theorem foldAndFooter : Obligations.FoldAndFooter :=
  ⟨rfl, fun bs x => crc15From_append_one _ bs x, fun h0 h1 body => (crc15_append [h0, h1] body).symm⟩

/-- Settles O23: each step is linear, so by induction over the two sequences the fold is; a split is the fold of an append. -/
theorem foldIsLinear : Obligations.FoldIsLinear :=
  ⟨crc15From_zipWith_xor 0#15 0#15, fun p q => (crc15_append p q).symm⟩

/-- Settles O24: the step does not read bit 7, and 0 is a fixed point of the step by 0x00 and by 0x80. -/
theorem foldBlindSpots : Obligations.FoldBlindSpots := by
  refine ⟨fun p q x => ?_, fun bs => ⟨crc15_cons_of_invisible (.inl rfl) bs, crc15_cons_of_invisible (.inr rfl) bs⟩,
    fun bs => ?_⟩
  · rw [crc15_append, crc15_append, crc15From_cons, crc15From_cons, crc15Step_xor_bit_seven]
  · induction bs with
    | nil => exact fun _ => rfl
    | cons x bs ih =>
      intro hall
      obtain ⟨hx, hbs⟩ := List.forall_mem_cons.mp hall
      rw [crc15_cons_of_invisible hx, ih hbs]

end Sys2Proof
end

section
/-! SUPPORT. The decoder inverts the encoder, and the words of the CRC commands as numbers (30_encoding.md R54, R56, R63). -/

namespace Sys2Proof

open Safety

/-! ## A word is its fields, as bits and as a number (R54) -/

theorem eq_wordOfFields {w : Word} {op : BitVec 4} {r : RegIdx} {z : BitVec 8} {imm : Half} (hop : (opField w).toNat = op.toNat)
    (hr : rField w = r) (hz : zField w = z) (himm : immField w = imm) : w = wordOfFields op r z imm := by
  rw [← BitVec.eq_of_toNat_eq hop, ← hr, ← hz, ← himm, wordOfFields_fields]

theorem wordOfFields_toNat (op : BitVec 4) (r : RegIdx) (z : BitVec 8) (imm : Half) :
    (wordOfFields op r z imm).toNat = op.toNat * 2 ^ 28 + r.toNat * 2 ^ 24 + z.toNat * 2 ^ 16 + imm.toNat := by
  have hop := opOf_eq_toNat (wordOfFields op r z imm)
  have hr := rOf_eq_toNat (wordOfFields op r z imm)
  have hz := zOf_eq_toNat (wordOfFields op r z imm)
  have himm := immOf_eq_toNat (wordOfFields op r z imm)
  rw [opField_wordOfFields, opOf] at hop
  rw [rField_wordOfFields, rOf] at hr
  rw [zField_wordOfFields, zOf] at hz
  rw [immField_wordOfFields, immOf] at himm
  omega

/-- An immediate whose high byte is 0 is the number of its low byte (R57). -/
theorem zero_append_toNat (b : Byte) : (0#8 ++ b : Half).toNat = b.toNat :=
  (BitVec.toNat_append 0#8 b).trans (by simp)

/-! ## Decoding inverts encoding -/

@[simp] theorem decode_encode (i : Instr) : decode (encode i) = .ok i := by
  cases i <;>
    simp [decode, encode, unlessReserved, opField_wordOfFields, rField_wordOfFields, zField_wordOfFields,
      immField_wordOfFields, immHigh_wordOfFields, immLow_wordOfFields]

/-- The fields a command does not use are 0, so the word is the command's (R56). -/
theorem eq_encode_of_decode_eq_ok {w : Word} {i : Instr} (h : decode w = .ok i) : w = encode i := by
  unfold decode at h
  split at h
  case h_7 => cases h
  all_goals
    rename_i hop
    obtain ⟨hreserved, rfl⟩ := unlessReserved_eq_ok.mp h
    simp only [Bool.or_eq_false_iff, bne_eq_false_iff_eq, and_assoc] at hreserved
  case h_1 =>
    obtain ⟨hz, hr, himm⟩ := hreserved
    exact eq_wordOfFields hop hr hz himm
  case h_2 =>
    obtain ⟨hz, hr, hhigh⟩ := hreserved
    exact eq_wordOfFields hop hr hz (by rw [← immHigh_append_immLow, hhigh]; rfl)
  case h_3 =>
    obtain ⟨hz, hr⟩ := hreserved
    exact eq_wordOfFields hop hr hz rfl
  case h_4 => exact eq_wordOfFields hop rfl hreserved rfl
  case h_5 =>
    obtain ⟨hz, himm⟩ := hreserved
    exact eq_wordOfFields hop rfl hz himm
  case h_6 =>
    obtain ⟨hz, himm⟩ := hreserved
    exact eq_wordOfFields hop rfl hz himm

/-- The one word that decodes to a command is the command's (R56). -/
theorem decode_eq_ok_iff (w : Word) (i : Instr) : decode w = .ok i ↔ w = encode i :=
  ⟨eq_encode_of_decode_eq_ok, fun h => h ▸ decode_encode i⟩

/-! ## The CRC commands -/

theorem encode_crcByte_toNat (b : Byte) : (encode (.crcByte b)).toNat = 0x20000000 + b.toNat := by
  rw [encode, wordOfFields_toNat, zero_append_toNat]
  simp

theorem encode_crcCheck_toNat (f : Half) : (encode (.crcCheck f)).toNat = 0x30000000 + f.toNat := by
  rw [encode, wordOfFields_toNat]
  simp

/-- A reserved bit that is 1 is the fault of an opcode's decoding equation (R62). -/
theorem decode_eq_reservedBits {w : Word} {p : Prop} [Decidable p] {i : Instr}
    (h : decode w = unlessReserved (decide p) i) (hp : p) : decode w = .error .reservedBits :=
  h.trans (unlessReserved_eq_error.mpr ⟨decide_eq_true hp, rfl⟩)

end Sys2Proof
end

section
/-! The statements of 40_crc15.md on the CRC commands. -/

namespace Sys2Proof

open Machine Safety

/-- Settles O30: the arm writes `crc` and its stream; the command's word is the only one. -/
theorem crcInitClearsTheChecksum : Obligations.CrcInitClearsTheChecksum :=
  ⟨fun _ => rfl, fun w => decode_eq_ok_iff w .crcInit,
    fun _ hop hreserved => decode_eq_reservedBits (decode_of_opOf_eq_one hop) (by omega)⟩

/-- Settles O31: as O30, the byte being the word's low byte; the corner cases are those of the byte step. -/
theorem crcByteFoldsOneByte : Obligations.CrcByteFoldsOneByte := by
  refine ⟨fun _ _ => rfl, fun w b => ?_, fun w hop hreserved => ?_, crc15Step_xor_bit_seven,
    crc15Step_zero_of_invisible (.inl rfl), crc15Step_zero_of_invisible (.inr rfl), by decide, by decide⟩
  · rw [decode_eq_ok_iff, BitVec.toNat_eq, encode_crcByte_toNat]
  · exact decode_eq_reservedBits (decode_of_opOf_eq_two hop) (by omega)

/-- Settles O32: as O30, the comparison being one of numbers; `crc` is below `2 ^ 15`, so a footer with bit 15 set differs. -/
theorem crcCheckComparesSixteenBits : Obligations.CrcCheckComparesSixteenBits := by
  have hexec : ∀ (s : State) (f : Half), exec (.crcCheck f) s =
      .next { s with matched := decide (s.crc.toNat = f.toNat), history := s.history ++ [.ok] } := by
    intro s f
    rw [← footerMatches_eq_decide]
    rfl
  refine ⟨hexec, fun w f => ?_, fun w hop hreserved => ?_, fun s f hf => ⟨_, hexec s f, ?_⟩, by decide +kernel⟩
  · rw [decode_eq_ok_iff, BitVec.toNat_eq, encode_crcCheck_toNat]
  · exact decode_eq_reservedBits (decode_of_opOf_eq_three hop) (by omega)
  · have hcrc := s.crc.isLt
    exact decide_eq_false (by omega)

end Sys2Proof
end

section
/-! SUPPORT. What SETR writes and leaves unchanged as the read port shows it, and its word as a number
(41_register_access.md R91, 10_state.md R31). -/

namespace Sys2Proof

namespace Machine

/-- An index is that of an operand register, or it is outside 4..12 (R31). -/
theorem regIdx_cases (r : RegIdx) : (∃ q, r = opRegIndex q) ∨ r.toNat < 4 ∨ 12 < r.toNat := by
  cases h : opRegOfIndex r with
  | none => exact .inr ((opRegOfIndex_eq_none r).mp h)
  | some q => exact .inl ⟨q, opRegOfIndex_eq_some r q h⟩

/-! ## The register written -/

@[simp] theorem State.afterSetr_operand_self (s : State) (q : OpReg) (v : Half) : (s.afterSetr q v).operand q = v := by
  simp [State.afterSetr_operand]

@[simp] theorem State.afterSetr_inputs (s : State) (q : OpReg) (v : Half) : (s.afterSetr q v).inputs = s.inputs := by
  simp [State.afterSetr]

@[simp] theorem State.afterSetr_crcStream (s : State) (q : OpReg) (v : Half) :
    (s.afterSetr q v).crcStream = s.crcStream := by
  simp [State.afterSetr]

/-! ## VALIDR -/

theorem validWord_or (a b : BitVec 9) : validWord (a ||| b) = validWord a ||| validWord b := by
  rw [validWord, validWord, validWord, BitVec.or_append, BitVec.or_self]

/-- A register's VALID bit stands at its place in VALIDR too (R31). -/
theorem validWord_bit (q : OpReg) : validWord (1#9 <<< validBit q) = 1#16 <<< ((opRegIndex q).toNat - 4) := by
  rcases q with (_ | _) | (_ | _) | _ | (_ | _) | (_ | _) <;> decide

/-- VALIDR after a SETR has the register's bit set besides (R91). -/
theorem rd_valid_afterSetr (s : State) (q : OpReg) (v : Half) :
    rd (s.afterSetr q v) 0x2#4 = rd s 0x2#4 ||| 1#16 <<< ((opRegIndex q).toNat - 4) := by
  have hvalid : (s.afterSetr q v).valid = s.valid ||| 1#9 <<< validBit q := by simp [State.afterSetr]
  have hread : ∀ t : State, rd t 0x2#4 = validWord t.valid := fun _ => rfl
  rw [hread, hread, hvalid, validWord_or, validWord_bit]

/-! ## Every other index -/

/-- An index SETR may not write reads as before, but for VALIDR. -/
theorem rd_afterSetr_of_not_writable (s : State) (q : OpReg) (v : Half) {j : RegIdx} (hj : j.toNat < 4 ∨ 12 < j.toNat)
    (hvalid : j ≠ 0x2#4) : rd (s.afterSetr q v) j = rd s j := by
  have hvalid : j.toNat ≠ 2 := fun h => hvalid (BitVec.eq_of_toNat_eq h)
  unfold rd
  split
  case h_3 => contradiction
  case h_4 | h_5 | h_6 | h_7 | h_8 | h_9 | h_10 | h_11 | h_12 => omega
  all_goals simp [State.afterSetr]

/-- A SETR is seen at its register's index and in VALIDR alone (R91). -/
theorem rd_afterSetr_of_ne (s : State) (q : OpReg) (v : Half) {j : RegIdx} (hq : j ≠ opRegIndex q) (hvalid : j ≠ 0x2#4) :
    rd (s.afterSetr q v) j = rd s j := by
  obtain ⟨p, rfl⟩ | hj := regIdx_cases j
  · have hp : p ≠ q := fun h => hq (congrArg opRegIndex h)
    rw [rd_opRegIndex, rd_opRegIndex, State.afterSetr_operand, if_neg hp]
  · exact rd_afterSetr_of_not_writable s q v hj hvalid

/-! ## A pattern with bit 15 set (R59) -/

theorem toInt_of_bit_fifteen {v : Half} (hv : 2 ^ 15 ≤ v.toNat) : v.toInt = (v.toNat : Int) - 65536 := by
  rw [BitVec.toInt_eq_toNat_cond, if_neg (by omega)]
  rfl

end Machine

theorem encode_setr_toNat (r : RegIdx) (v : Half) :
    (encode (.setr r v)).toNat = 0x40000000 + r.toNat * 2 ^ 24 + v.toNat := by
  rw [encode, wordOfFields_toNat]
  simp

end Sys2Proof
end

section
/-! The statements of 41_register_access.md on SETR. -/

namespace Sys2Proof

open Machine

/-- Settles O39: a legal index is an operand register's, whose SETR is seen there and in VALIDR alone; the word is the
command's own; any other index is the BAD_INDEX fault. -/
theorem setrWritesOneRegister : Obligations.SetrWritesOneRegister := by
  refine ⟨fun s r v hlow hhigh => ?_, fun w r v => ?_, fun w hop hz => ?_, fun s r v hr => exec_setr_of_not_writable hr v s⟩
  · obtain ⟨q, rfl⟩ | hr := regIdx_cases r
    · exact ⟨s.afterSetr q v, exec_setReg q v s, by simp, rd_valid_afterSetr s q v,
        fun j hq hvalid => rd_afterSetr_of_ne s q v hq hvalid, by simp, by simp, by simp⟩
    · omega
  · rw [decode_eq_ok_iff, BitVec.toNat_eq, encode_setr_toNat]
  · exact decode_eq_reservedBits (decode_of_opOf_eq_four hop) hz

/-- Settles O40: each SETR leaves the pattern itself in its register; the target's is read as a signed number, the others'
as unsigned. -/
theorem targetIsSigned : Obligations.TargetIsSigned := by
  intro s sv v hv
  refine ⟨⟨_, exec_setReg (.tgt sv) v s, ?_⟩, ⟨_, exec_setReg (.fb sv) v s, ?_⟩, ⟨_, exec_setReg .tol v s, ?_⟩,
    ⟨_, exec_setReg (.pwmin sv) v s, ?_⟩, ⟨_, exec_setReg (.pwmax sv) v s, ?_⟩⟩
  · rw [targetOf, State.afterSetr_operand_self, toInt_of_bit_fifteen hv]
  · rw [feedbackOf, State.afterSetr_operand_self]
  · rw [toleranceOf, State.afterSetr_operand_self]
  · rw [pwminOf, State.afterSetr_operand_self]
  · rw [pwmaxOf, State.afterSetr_operand_self]

end Sys2Proof
end

section
/-! SUPPORT. What the comparator and the holding map give, when a BB command faults, and the state it leaves when it does not
(42_bangbang.md R95 to R106, 60_exceptions.md R117 to R121). -/

namespace Sys2Proof.Machine

open Safety

/-! ## The comparator (R95) -/

theorem bbDecide_eq_hold_iff (t fb tol : Int) : bbDecide t fb tol = .hold ↔ -tol ≤ t - fb ∧ t - fb ≤ tol := by
  unfold bbDecide
  split_ifs <;> simp <;> omega

theorem bbDecide_eq_driveMin_iff {t fb tol : Int} (htol : 0 ≤ tol) : bbDecide t fb tol = .driveMin ↔ t - fb > tol := by
  unfold bbDecide
  split_ifs <;> simp <;> omega

theorem bbDecide_eq_driveMax_iff {t fb tol : Int} (htol : 0 ≤ tol) : bbDecide t fb tol = .driveMax ↔ fb - t > tol := by
  unfold bbDecide
  split_ifs <;> simp <;> omega

/-! ## The holding map (R102, R103) -/

@[simp] theorem holdPw_zero (mn mx : Nat) : holdPw 0 mn mx = mn := by simp [holdPw]

theorem holdPw_full {mn mx : Nat} (h : mn ≤ mx) : holdPw 100 mn mx = mx := by
  simp only [holdPw, Config.fbFullScale]
  omega

theorem holdPw_mono {fb g : Nat} (h : fb ≤ g) (mn mx : Nat) : holdPw fb mn mx ≤ holdPw g mn mx :=
  Nat.add_le_add_left (Nat.div_le_div_right (Nat.mul_le_mul_right _ h)) mn

theorem le_holdPw (fb mn mx : Nat) : mn ≤ holdPw fb mn mx := Nat.le_add_right _ _

theorem holdPw_le {fb mn mx : Nat} (hfb : fb ≤ 100) (h : mn ≤ mx) : holdPw fb mn mx ≤ mx :=
  (holdPw_mono hfb mn mx).trans_eq (holdPw_full h)

/-- Under the command's checks the holding width loses nothing in its 16 bits (R103). -/
theorem holdWidth_toNat {s : State} {sv : Servo} (h : InRange s sv) :
    (holdWidth s sv).toNat = holdPw (feedbackOf s sv) (pwminOf s sv) (pwmaxOf s sv) := by
  obtain ⟨hcal, hfb⟩ := h
  have hle := holdPw_le hfb hcal.le
  have hmax := (s.operand (.pwmax sv)).isLt
  exact Nat.mod_eq_of_lt (hle.trans_lt hmax)

/-! ## The checks -/

theorem evalWritten_iff (s : State) (sv : Servo) : EvalWritten s sv ↔ ∀ q ∈ evalOperands sv, s.isValid q = true := by
  simp [EvalWritten, evalOperands]

theorem holdWritten_iff (s : State) (sv : Servo) : HoldWritten s sv ↔ ∀ q ∈ holdOperands sv, s.isValid q = true := by
  simp [HoldWritten, holdOperands]

/-- BB_EVAL's checks pass exactly on a servo that is ready (R99). -/
theorem evalReady_iff (s : State) (sv : Servo) : EvalReady s sv ↔ operandFault s sv (evalOperands sv) = none := by
  rw [operandFault_eq_none, ← evalWritten_iff]
  rfl

/-- BB_HOLD's checks pass exactly on a servo that is ready (R104). -/
theorem holdReady_iff (s : State) (sv : Servo) : HoldReady s sv ↔ operandFault s sv (holdOperands sv) = none := by
  rw [operandFault_eq_none, ← holdWritten_iff]
  rfl

section
variable {s : State} {sv : Servo} {reads : List OpReg}

theorem operandFault_eq_uninit (h : ¬∀ q ∈ reads, s.isValid q = true) : operandFault s sv reads = some .uninit :=
  if_neg (by simpa using h)

theorem operandFault_eq_calInvalid (hv : ∀ q ∈ reads, s.isValid q = true) (h : pwmaxOf s sv ≤ pwminOf s sv) :
    operandFault s sv reads = some .calInvalid := by
  rw [operandFault, if_pos (List.all_eq_true.mpr hv), if_neg (by omega)]

theorem operandFault_eq_sensorRange (hv : ∀ q ∈ reads, s.isValid q = true) (hcal : pwminOf s sv < pwmaxOf s sv)
    (h : 100 < feedbackOf s sv) : operandFault s sv reads = some .sensorRange := by
  rw [operandFault, if_pos (List.all_eq_true.mpr hv), if_pos hcal, if_neg (by simpa using h)]

/-- The checks see the VALID bits of the operands read, and the servo's range and feedback. -/
theorem operandFault_congr_of_reads {s' : State} (hv : ∀ q ∈ reads, s'.isValid q = s.isValid q)
    (ho : ∀ q ∈ holdOperands sv, s'.operand q = s.operand q) : operandFault s' sv reads = operandFault s sv reads := by
  have hall : reads.all s'.isValid = reads.all s.isValid := by
    rw [Bool.eq_iff_iff, List.all_eq_true, List.all_eq_true]
    exact forall₂_congr fun q hq => by rw [hv q hq]
  simp only [holdOperands, List.forall_mem_cons] at ho
  obtain ⟨hfb, hmin, hmax, -⟩ := ho
  rw [operandFault, operandFault, hall, pwminOf, pwmaxOf, feedbackOf, hfb, hmin, hmax]
  rfl

end

/-! ## The outcomes of a BB command -/

section
variable {s : State} {sv : Servo} {reads : Servo → List OpReg} {effect : State → Servo → State}

theorem onServo_of_bad_index {r : RegIdx} (hr : 1 < r.toNat) : onServo r reads effect s = .next (raiseFault .badIndex s) := by
  rw [onServo, (servoOfIndex_eq_none r).mpr hr]
  rfl

theorem onServo_of_fault {c : FaultCode} (h : operandFault s sv (reads sv) = some c) :
    onServo (servoIndex sv) reads effect s = .next (raiseFault c s) := by
  simp [onServo, h, takeFault]

theorem onServo_of_ready (h : operandFault s sv (reads sv) = none) :
    onServo (servoIndex sv) reads effect s = .next ((effect s sv).record .ok) := by
  simp [onServo, h, complete]

/-- The operand faults of a BB command, in the order of its checks (R121). -/
theorem onServo_operand_faults :
    ((¬∀ q ∈ reads sv, s.isValid q = true) → onServo (servoIndex sv) reads effect s = .next (faulted 4#4 .uninit s)) ∧
    ((∀ q ∈ reads sv, s.isValid q = true) → pwminOf s sv ≥ pwmaxOf s sv →
      onServo (servoIndex sv) reads effect s = .next (faulted 5#4 .calInvalid s)) ∧
    ((∀ q ∈ reads sv, s.isValid q = true) → pwminOf s sv < pwmaxOf s sv → feedbackOf s sv > 100 →
      onServo (servoIndex sv) reads effect s = .next (faulted 6#4 .sensorRange s)) :=
  ⟨fun hv => onServo_of_fault (operandFault_eq_uninit hv),
    fun hv hcal => onServo_of_fault (operandFault_eq_calInvalid hv hcal),
    fun hv hcal hfb => onServo_of_fault (operandFault_eq_sensorRange hv hcal hfb)⟩

end

/-! ## The state after a BB command that completes -/

/-- The state after a BB_EVAL whose checks pass (R99). -/
def State.afterEval (s : State) (sv : Servo) : State := (evalServo s sv).record .ok

/-- BB_HOLD's effect on a servo whose operands pass the checks (R104). -/
def holdServo (s : State) (sv : Servo) : State := emitAct s sv (holdWidth s sv)

/-- The state after a BB_HOLD whose checks pass (R104). -/
def State.afterHold (s : State) (sv : Servo) : State := (holdServo s sv).record .ok

theorem exec_bbEval (r : RegIdx) (s : State) : exec (.bbEval r) s = onServo r evalOperands evalServo s := rfl

theorem exec_bbHold (r : RegIdx) (s : State) : exec (.bbHold r) s = onServo r holdOperands holdServo s := rfl

theorem exec_bbEval_of_ready {s : State} {sv : Servo} (h : EvalReady s sv) :
    exec (.bbEval (servoIndex sv)) s = .next (s.afterEval sv) :=
  (exec_bbEval _ s).trans (onServo_of_ready ((evalReady_iff s sv).mp h))

theorem exec_bbHold_of_ready {s : State} {sv : Servo} (h : HoldReady s sv) :
    exec (.bbHold (servoIndex sv)) s = .next (s.afterHold sv) :=
  (exec_bbHold _ s).trans (onServo_of_ready ((holdReady_iff s sv).mp h))

/-- An emission and the command's Ok in one update (R12, R13). -/
theorem emitAct_record_ok (s : State) (sv : Servo) (pw : Half) :
    (emitAct s sv pw).record .ok = { s.setPwout sv pw with history := s.history ++ [.act ⟨sv, pw⟩, .ok] } := by
  simp [emitAct, State.record]

theorem State.afterEval_of_driveMin {s : State} {sv : Servo} (h : evalDecision s sv = .driveMin) :
    s.afterEval sv = { (s.setAct sv 2#2).setPwout sv (s.operand (.pwmin sv)) with
      history := s.history ++ [.act ⟨sv, s.operand (.pwmin sv)⟩, .ok] } := by
  simp [State.afterEval, evalServo, driveServo, h, decisionBits, emitAct_record_ok]

theorem State.afterEval_of_driveMax {s : State} {sv : Servo} (h : evalDecision s sv = .driveMax) :
    s.afterEval sv = { (s.setAct sv 3#2).setPwout sv (s.operand (.pwmax sv)) with
      history := s.history ++ [.act ⟨sv, s.operand (.pwmax sv)⟩, .ok] } := by
  simp [State.afterEval, evalServo, driveServo, h, decisionBits, emitAct_record_ok]

theorem State.afterEval_of_hold {s : State} {sv : Servo} (h : evalDecision s sv = .hold) :
    s.afterEval sv = { s.setAct sv 1#2 with history := s.history ++ [.ok] } := by
  simp [State.afterEval, evalServo, driveServo, h, decisionBits, State.record]

end Sys2Proof.Machine
end

section
/-! SUPPORT. What a BB command does in two states that agree on its servo, and the state after each part of a control tick
(42_bangbang.md R106, R108, R111). -/

namespace Sys2Proof.Machine

open Safety

/-! ## Two states that agree on a servo (R106) -/

/-- From `s` to `t` and from `s'` to `t'` the history grows by the same entries, and the servo's `PWOUT` and `ACT` end equal. -/
def SameResponse (sv : Servo) (s t s' t' : State) : Prop :=
  ∃ h, t.history = s.history ++ h ∧ t'.history = s'.history ++ h ∧ t'.pwout sv = t.pwout sv ∧ t'.act sv = t.act sv

section
variable {s s' : State} {sv : Servo} {reads : Servo → List OpReg} {effect : State → Servo → State}

theorem sameResponse_raiseFault (hact : s'.act sv = s.act sv) (hpwout : s'.pwout sv = s.pwout sv) (c : FaultCode) :
    SameResponse sv s (raiseFault c s) s' (raiseFault c s') :=
  ⟨[.fault c], by simp, by simp, by simpa, by simpa⟩

theorem sameResponse_emitAct (hact : s'.act sv = s.act sv) {pw pw' : Half} (hpw : pw' = pw) :
    SameResponse sv s (emitAct s sv pw) s' (emitAct s' sv pw') := by
  subst hpw
  exact ⟨[.act ⟨sv, pw'⟩], by simp, by simp, by simp [emitAct_pwout], by simpa⟩

theorem sameResponse_driveServo (hact : s'.act sv = s.act sv) (hpwout : s'.pwout sv = s.pwout sv)
    (hmin : s'.operand (.pwmin sv) = s.operand (.pwmin sv)) (hmax : s'.operand (.pwmax sv) = s.operand (.pwmax sv))
    (d : Decision) : SameResponse sv s (driveServo s sv d) s' (driveServo s' sv d) := by
  cases d with
  | hold => exact ⟨[], by simp [driveServo], by simp [driveServo], hpwout, hact⟩
  | driveMin => exact sameResponse_emitAct hact hmin
  | driveMax => exact sameResponse_emitAct hact hmax

/-- A BB command whose checks agree and whose effects agree answers both states alike. -/
theorem onServo_sameResponse (hact : s'.act sv = s.act sv) (hpwout : s'.pwout sv = s.pwout sv)
    (hcheck : operandFault s' sv (reads sv) = operandFault s sv (reads sv))
    (heffect : SameResponse sv s (effect s sv) s' (effect s' sv)) :
    ∃ t t', onServo (servoIndex sv) reads effect s = .next t ∧ onServo (servoIndex sv) reads effect s' = .next t' ∧
      SameResponse sv s t s' t' := by
  cases hf : operandFault s sv (reads sv) with
  | some c =>
    exact ⟨_, _, onServo_of_fault hf, onServo_of_fault (hcheck.trans hf), sameResponse_raiseFault hact hpwout c⟩
  | none =>
    obtain ⟨h, ht, ht', hpwout, hact⟩ := heffect
    exact ⟨_, _, onServo_of_ready hf, onServo_of_ready (hcheck.trans hf), h ++ [.ok], by simp [ht], by simp [ht'],
      by simpa, by simpa⟩

theorem holdServo_sameResponse (hact : s'.act sv = s.act sv)
    (ho : ∀ q ∈ holdOperands sv, s'.operand q = s.operand q) :
    SameResponse sv s (holdServo s sv) s' (holdServo s' sv) := by
  simp only [holdOperands, List.forall_mem_cons] at ho
  obtain ⟨hfb, hmin, hmax, -⟩ := ho
  exact sameResponse_emitAct hact (by simp only [holdWidth, feedbackOf, pwminOf, pwmaxOf, hfb, hmin, hmax])

theorem evalServo_sameResponse (hpwout : s'.pwout sv = s.pwout sv)
    (ho : ∀ q ∈ evalOperands sv, s'.operand q = s.operand q) :
    SameResponse sv s (evalServo s sv) s' (evalServo s' sv) := by
  simp only [evalOperands, List.forall_mem_cons] at ho
  obtain ⟨htgt, hfb, htol, hmin, hmax, -⟩ := ho
  have hdecision : evalDecision s' sv = evalDecision s sv := by
    simp only [evalDecision, targetOf, feedbackOf, toleranceOf, htgt, hfb, htol]
  rw [evalServo, evalServo, hdecision]
  simpa [SameResponse] using sameResponse_driveServo (s := s.setAct sv (decisionBits (evalDecision s sv)))
    (s' := s'.setAct sv (decisionBits (evalDecision s sv))) (sv := sv) (by simp) (by simpa) (by simpa) (by simpa)
    (evalDecision s sv)

end

/-! ## What a BB command leaves unchanged -/

@[simp] theorem evalServo_operand (s : State) (sv : Servo) (q : OpReg) : (evalServo s sv).operand q = s.operand q := by
  obtain h | ⟨pw, h⟩ := evalServo_cases s sv <;> simp [h]

@[simp] theorem evalServo_isValid (s : State) (sv : Servo) (q : OpReg) : (evalServo s sv).isValid q = s.isValid q := by
  obtain h | ⟨pw, h⟩ := evalServo_cases s sv <;> simp [h]

@[simp] theorem evalServo_err (s : State) (sv : Servo) : (evalServo s sv).err = s.err := by
  obtain h | ⟨pw, h⟩ := evalServo_cases s sv <;> simp [h]

@[simp] theorem State.afterEval_operand (s : State) (sv : Servo) (q : OpReg) : (s.afterEval sv).operand q = s.operand q := by
  simp [State.afterEval]

@[simp] theorem State.afterEval_isValid (s : State) (sv : Servo) (q : OpReg) : (s.afterEval sv).isValid q = s.isValid q := by
  simp [State.afterEval]

@[simp] theorem State.afterEval_err (s : State) (sv : Servo) : (s.afterEval sv).err = s.err := by simp [State.afterEval]

@[simp] theorem State.afterHold_operand (s : State) (sv : Servo) (q : OpReg) : (s.afterHold sv).operand q = s.operand q := by
  simp [State.afterHold, holdServo]

@[simp] theorem State.afterHold_isValid (s : State) (sv : Servo) (q : OpReg) : (s.afterHold sv).isValid q = s.isValid q := by
  simp [State.afterHold, holdServo]

@[simp] theorem State.afterHold_err (s : State) (sv : Servo) : (s.afterHold sv).err = s.err := by
  simp [State.afterHold, holdServo]

@[simp] theorem State.afterSetr_err (s : State) (q : OpReg) (v : Half) : (s.afterSetr q v).err = s.err := by
  simp [State.afterSetr]

/-! ## Outcomes and events of the commands of a tick -/

@[simp] theorem State.afterSetr_outcomes (s : State) (q : OpReg) (v : Half) :
    (s.afterSetr q v).outcomes = s.outcomes ++ [none] := by
  simp [State.outcomes]

@[simp] theorem State.afterHold_outcomes (s : State) (sv : Servo) : (s.afterHold sv).outcomes = s.outcomes ++ [none] := by
  simp [State.outcomes, State.afterHold, holdServo]

@[simp] theorem State.afterEval_outcomes (s : State) (sv : Servo) : (s.afterEval sv).outcomes = s.outcomes ++ [none] := by
  obtain h | ⟨pw, h⟩ := evalServo_cases s sv <;> simp [State.outcomes, State.afterEval, h]

@[simp] theorem State.afterSetr_events (s : State) (q : OpReg) (v : Half) : (s.afterSetr q v).events = s.events := by
  simp [State.afterSetr]

@[simp] theorem State.afterHold_events (s : State) (sv : Servo) :
    (s.afterHold sv).events = s.events ++ [⟨sv, holdWidth s sv⟩] := by
  simp [State.afterHold, holdServo]

/-- The events of a decision (R98). -/
def driveEvents (sv : Servo) (mn mx : Half) : Decision → List ActEvent
  | .hold => []
  | .driveMin => [⟨sv, mn⟩]
  | .driveMax => [⟨sv, mx⟩]

theorem driveServo_events (s : State) (sv : Servo) (d : Decision) :
    (driveServo s sv d).events = s.events ++ driveEvents sv (s.operand (.pwmin sv)) (s.operand (.pwmax sv)) d := by
  cases d <;> simp [driveServo, driveEvents]

theorem State.afterEval_events (s : State) (sv : Servo) :
    (s.afterEval sv).events =
      s.events ++ driveEvents sv (s.operand (.pwmin sv)) (s.operand (.pwmax sv)) (evalDecision s sv) := by
  simp [State.afterEval, evalServo, driveServo_events]

/-- A servo outside its tolerance is driven, to the minimum if its feedback is below the target (R95, R98). -/
theorem driveEvents_bbDecide (sv : Servo) (mn mx : Half) (t fb : Int) (tol : Nat) :
    driveEvents sv mn mx (bbDecide t fb tol) =
      if (t - fb).natAbs > tol then [⟨sv, if fb < t then mn else mx⟩] else [] := by
  simp only [bbDecide, gt_iff_lt, Nat.cast_lt]
  split_ifs <;> rfl

/-! ## The two parts of a control tick (R71, R108) -/

theorem calibrated_iff (s : State) :
    Calibrated s ↔
      ∀ sv : Servo, s.isValid (.pwmin sv) = true ∧ s.isValid (.pwmax sv) = true ∧ pwminOf s sv < pwmaxOf s sv := by
  constructor
  · rintro ⟨hv, h0, h1⟩ sv
    obtain ⟨hmin, hmax⟩ := hv sv
    refine ⟨hmin, hmax, ?_⟩
    cases sv <;> assumption
  · intro h
    obtain ⟨-, -, h0⟩ := h .servo0
    obtain ⟨-, -, h1⟩ := h .servo1
    exact ⟨fun sv => (h sv).imp_right And.left, h0, h1⟩

/-- The state after the five SETRs of a tick's first part (R108 step 1). -/
def State.afterTickWrites (s : State) (t0 t1 tol f0 f1 : Half) : State :=
  ((((s.afterSetr (.tgt .servo0) t0).afterSetr (.tgt .servo1) t1).afterSetr .tol tol).afterSetr (.fb .servo0) f0).afterSetr
    (.fb .servo1) f1

/-- The state after a tick's two evaluations (R108 step 2). -/
def State.afterTickDrive (s : State) (t0 t1 tol f0 f1 : Half) : State :=
  ((s.afterTickWrites t0 t1 tol f0 f1).afterEval .servo0).afterEval .servo1

/-- The state after a tick's resample (R108 step 4). -/
def State.afterResample (s : State) (g0 g1 : Half) : State := (s.afterSetr (.fb .servo0) g0).afterSetr (.fb .servo1) g1

/-- The state after a tick's two holds (R108 step 5). -/
def State.afterTickHold (s : State) (g0 g1 : Half) : State :=
  ((s.afterResample g0 g1).afterHold .servo0).afterHold .servo1

@[simp] theorem evalReady_afterEval (s : State) (sw sv : Servo) : EvalReady (s.afterEval sw) sv ↔ EvalReady s sv := by
  simp [EvalReady, EvalWritten, InRange]

@[simp] theorem holdReady_afterHold (s : State) (sw sv : Servo) : HoldReady (s.afterHold sw) sv ↔ HoldReady s sv := by
  simp [HoldReady, HoldWritten, InRange]

@[simp] theorem holdWidth_afterHold (s : State) (sw sv : Servo) : holdWidth (s.afterHold sw) sv = holdWidth s sv := by
  simp [holdWidth, feedbackOf, pwminOf, pwmaxOf]

section
variable {s : State} {t0 t1 tol f0 f1 g0 g1 : Half}

/-- The first part of a tick writes no calibrated range. -/
theorem calibrated_afterTickDrive (h : Calibrated s) : Calibrated (s.afterTickDrive t0 t1 tol f0 f1) := by
  rw [calibrated_iff] at h ⊢
  simpa [State.afterTickDrive, State.afterTickWrites, pwminOf, pwmaxOf, State.afterSetr_operand, State.afterSetr_isValid]
    using h

theorem evalReady_afterTickWrites (h : Calibrated s) (hf0 : f0.toNat ≤ 100) (hf1 : f1.toNat ≤ 100) (sv : Servo) :
    EvalReady (s.afterTickWrites t0 t1 tol f0 f1) sv := by
  obtain ⟨hmin, hmax, hcal⟩ := (calibrated_iff s).mp h sv
  rw [pwminOf, pwmaxOf] at hcal
  cases sv <;>
    simp [EvalReady, EvalWritten, InRange, State.afterTickWrites, State.afterSetr_operand, State.afterSetr_isValid, hmin, hmax,
      hcal, hf0, hf1]

theorem holdReady_afterResample (h : Calibrated s) (hg0 : g0.toNat ≤ 100) (hg1 : g1.toNat ≤ 100) (sv : Servo) :
    HoldReady (s.afterResample g0 g1) sv := by
  obtain ⟨hmin, hmax, hcal⟩ := (calibrated_iff s).mp h sv
  rw [pwminOf, pwmaxOf] at hcal
  cases sv <;>
    simp [HoldReady, HoldWritten, InRange, State.afterResample, State.afterSetr_operand, State.afterSetr_isValid, hmin, hmax,
      hcal, hg0, hg1]

theorem runCommands_bbTickDrive (h : Calibrated s) (hf0 : f0.toNat ≤ 100) (hf1 : f1.toNat ≤ 100) :
    runCommands (bbTickDrive t0 t1 tol f0 f1) s = .next (s.afterTickDrive t0 t1 tol f0 f1) := by
  have ready := evalReady_afterTickWrites (t0 := t0) (t1 := t1) (tol := tol) h hf0 hf1
  rw [State.afterTickWrites] at ready
  simp [bbTickDrive, runCommands, exec_setReg, exec_bbEval_of_ready, ready, State.afterTickDrive, State.afterTickWrites]

theorem runCommands_bbTickHold (h : Calibrated s) (hg0 : g0.toNat ≤ 100) (hg1 : g1.toNat ≤ 100) :
    runCommands (bbTickHold g0 g1) s = .next (s.afterTickHold g0 g1) := by
  have ready := holdReady_afterResample h hg0 hg1
  rw [State.afterResample] at ready
  simp [bbTickHold, runCommands, exec_setReg, exec_bbHold_of_ready, ready, State.afterTickHold, State.afterResample]

theorem runCommands_bbTick (h : Calibrated s) (hf0 : f0.toNat ≤ 100) (hf1 : f1.toNat ≤ 100) (hg0 : g0.toNat ≤ 100)
    (hg1 : g1.toNat ≤ 100) :
    runCommands (bbTick t0 t1 tol f0 f1 g0 g1) s = .next ((s.afterTickDrive t0 t1 tol f0 f1).afterTickHold g0 g1) :=
  (runCommands_append (runCommands_bbTickDrive h hf0 hf1)).trans
    (runCommands_bbTickHold (calibrated_afterTickDrive h) hg0 hg1)

/-- Each calibrated servo holds at the width of its resample (R104, R111). -/
theorem holdWidth_afterResample_toNat (h : Calibrated s) (hg0 : g0.toNat ≤ 100) (hg1 : g1.toNat ≤ 100) :
    (holdWidth (s.afterResample g0 g1) .servo0).toNat = holdPw g0.toNat (pwminOf s .servo0) (pwmaxOf s .servo0) ∧
    (holdWidth (s.afterResample g0 g1) .servo1).toNat = holdPw g1.toNat (pwminOf s .servo1) (pwmaxOf s .servo1) := by
  obtain ⟨-, hrange0⟩ := holdReady_afterResample h hg0 hg1 .servo0
  obtain ⟨-, hrange1⟩ := holdReady_afterResample h hg0 hg1 .servo1
  rw [holdWidth_toNat hrange0, holdWidth_toNat hrange1]
  simp [State.afterResample, feedbackOf, pwminOf, pwmaxOf, State.afterSetr_operand]

end

section
variable (s : State) (t0 t1 tol f0 f1 g0 g1 : Half)

@[simp] theorem State.afterTickDrive_pwminOf (sv : Servo) : pwminOf (s.afterTickDrive t0 t1 tol f0 f1) sv = pwminOf s sv := by
  simp [pwminOf, State.afterTickDrive, State.afterTickWrites, State.afterSetr_operand]

@[simp] theorem State.afterTickDrive_pwmaxOf (sv : Servo) : pwmaxOf (s.afterTickDrive t0 t1 tol f0 f1) sv = pwmaxOf s sv := by
  simp [pwmaxOf, State.afterTickDrive, State.afterTickWrites, State.afterSetr_operand]

theorem State.afterTickDrive_events :
    (s.afterTickDrive t0 t1 tol f0 f1).events = s.events ++
      driveEvents .servo0 (s.operand (.pwmin .servo0)) (s.operand (.pwmax .servo0)) (bbDecide t0.toInt f0.toNat tol.toNat) ++
      driveEvents .servo1 (s.operand (.pwmin .servo1)) (s.operand (.pwmax .servo1)) (bbDecide t1.toInt f1.toNat tol.toNat) := by
  simp [State.afterTickDrive, State.afterEval_events, State.afterTickWrites, evalDecision, targetOf, feedbackOf, toleranceOf,
    State.afterSetr_operand]

theorem State.afterTickHold_events :
    (s.afterTickHold g0 g1).events = s.events ++
      [⟨.servo0, holdWidth (s.afterResample g0 g1) .servo0⟩, ⟨.servo1, holdWidth (s.afterResample g0 g1) .servo1⟩] := by
  simp [State.afterTickHold, State.afterResample]

theorem State.afterTick_outcomes :
    ((s.afterTickDrive t0 t1 tol f0 f1).afterTickHold g0 g1).outcomes = s.outcomes ++ List.replicate 11 none := by
  simp [State.afterTickHold, State.afterResample, State.afterTickDrive, State.afterTickWrites, List.replicate_succ]

theorem State.afterTick_err : ((s.afterTickDrive t0 t1 tol f0 f1).afterTickHold g0 g1).err = s.err := by
  simp [State.afterTickHold, State.afterResample, State.afterTickDrive, State.afterTickWrites]

end

end Sys2Proof.Machine
end

section
/-! The statements of 42_bangbang.md on the BB unit's functions and commands. -/

namespace Sys2Proof

open Machine Safety

/-- Settles O42: each decision by the comparator's branches. -/
theorem comparatorDecision : Obligations.ComparatorDecision := fun t fb tol htol =>
  ⟨bbDecide_eq_driveMin_iff htol, bbDecide_eq_driveMax_iff htol, bbDecide_eq_hold_iff t fb tol⟩

/-- Settles O44: the map is the minimum plus a floored quotient, which is monotone in the feedback and the whole range at
100. -/
theorem holdingMapIsTheFloorOfTheLine : Obligations.HoldingMapIsTheFloorOfTheLine := by
  intro mn mx fb h hfb
  have hrise : holdPw fb mn mx - mn = fb * (mx - mn) / 100 := Nat.add_sub_cancel_left mn _
  refine ⟨holdPw_zero mn mx, holdPw_full h.le, le_holdPw fb mn mx, holdPw_le hfb h.le, ?_, ?_,
    fun g hg => holdPw_mono hg mn mx, fun hmx => ?_, rfl, rfl, rfl⟩
  · rw [hrise]
    exact Nat.mul_div_le _ _
  · rw [hrise]
    exact Nat.lt_mul_div_succ _ (by decide)
  · exact Nat.mul_le_mul hfb (show mx - mn ≤ 65535 by omega)

/-- Settles O43: the decision on the operands as integers fixes the state after the command; the word is the command's own; the
faults are those of the operand checks. -/
theorem evalDrivesOrHolds : Obligations.EvalDrivesOrHolds := by
  refine ⟨fun s sv ready => ?_, fun w sv => ?_, fun w hop hreserved => ?_,
    fun s r hr => (exec_bbEval r s).trans (onServo_of_bad_index hr), fun s sv => ?_⟩
  · have htol : (0 : Int) ≤ toleranceOf s := Int.natCast_nonneg _
    rw [exec_bbEval_of_ready ready]
    refine ⟨fun h => ?_, fun h => ?_, fun h => ?_⟩
    · rw [State.afterEval_of_driveMin ((bbDecide_eq_driveMin_iff htol).mpr h)]
    · rw [State.afterEval_of_driveMax ((bbDecide_eq_driveMax_iff htol).mpr h)]
    · have hband : -(toleranceOf s : Int) ≤ targetOf s sv - feedbackOf s sv ∧
          targetOf s sv - feedbackOf s sv ≤ toleranceOf s := by
        simp only [targetOf, feedbackOf, toleranceOf]
        omega
      rw [State.afterEval_of_hold ((bbDecide_eq_hold_iff _ _ _).mpr hband)]
  · rw [decode_eq_ok_iff]
    cases sv <;> rfl
  · exact decode_eq_reservedBits (decode_of_opOf_eq_five hop) hreserved
  · simp only [evalWritten_iff, exec_bbEval]
    exact onServo_operand_faults

/-- Settles O45: the width emitted is the holding map's, which fits; the rest as O43. -/
theorem holdEmitsTheHoldingWidth : Obligations.HoldEmitsTheHoldingWidth := by
  refine ⟨fun s sv ready => ?_, fun w sv => ?_, fun w hop hreserved => ?_,
    fun s r hr => (exec_bbHold r s).trans (onServo_of_bad_index hr), fun s sv => ?_⟩
  · obtain ⟨hwritten, hcal, hfb⟩ := ready
    have hwidth := holdWidth_toNat ⟨hcal, hfb⟩
    refine ⟨holdWidth s sv, hwidth, ?_, ?_, ?_⟩
    · rw [hwidth]
      exact le_holdPw _ _ _
    · rw [hwidth]
      exact holdPw_le hfb hcal.le
    · rw [exec_bbHold_of_ready ⟨hwritten, hcal, hfb⟩, State.afterHold, holdServo, emitAct_record_ok]
  · rw [decode_eq_ok_iff]
    cases sv <;> rfl
  · exact decode_eq_reservedBits (decode_of_opOf_eq_six hop) hreserved
  · simp only [holdWritten_iff, exec_bbHold]
    exact onServo_operand_faults

/-- Settles O47: the command answers by its checks, which agree, and its effect on the servo, which agrees. -/
theorem servosAreIndependent : Obligations.ServosAreIndependent := by
  intro s s' sv hservo hact hpwout
  have hoperand : ∀ q ∈ holdOperands sv, s'.operand q = s.operand q := fun q hq => (hservo q hq).1
  refine ⟨?_, fun hshared => ?_⟩
  · have hcheck := operandFault_congr_of_reads (reads := holdOperands sv) (fun q hq => (hservo q hq).2) hoperand
    obtain ⟨t, t', ht, ht', h, hh, hh', hout, -⟩ :=
      onServo_sameResponse hact hpwout hcheck (holdServo_sameResponse hact hoperand)
    exact ⟨t, t', h, ht, ht', hh, hh', hout⟩
  · have hall : ∀ q ∈ evalOperands sv, s'.operand q = s.operand q ∧ s'.isValid q = s.isValid q := by
      simp only [evalOperands, List.forall_mem_cons] at hservo hshared ⊢
      obtain ⟨hfb, hmin, hmax, hnil⟩ := hservo
      obtain ⟨htgt, htol, -⟩ := hshared
      exact ⟨htgt, hfb, htol, hmin, hmax, hnil⟩
    have hcheck := operandFault_congr_of_reads (reads := evalOperands sv) (fun q hq => (hall q hq).2) hoperand
    obtain ⟨t, t', ht, ht', h, hh, hh', hout, hact'⟩ :=
      onServo_sameResponse hact hpwout hcheck (evalServo_sameResponse hpwout fun q hq => (hall q hq).1)
    exact ⟨t, t', h, ht, ht', hh, hh', hout, hact'⟩

/-- Settles O51: the tick is its two parts; the first adds the events of the two decisions, the second the two
holding widths. -/
theorem tickEmitsDrivesThenHolds : Obligations.TickEmitsDrivesThenHolds := by
  intro s t0 t1 tol f0 f1 g0 g1 hcal hf0 hf1 hg0 hg1
  have hevents : ((s.afterTickDrive t0 t1 tol f0 f1).afterTickHold g0 g1).events = _ := State.afterTickHold_events ..
  rw [State.afterTickDrive_events, driveEvents_bbDecide, driveEvents_bbDecide] at hevents
  obtain ⟨hwidth0, hwidth1⟩ := holdWidth_afterResample_toNat (calibrated_afterTickDrive hcal) hg0 hg1
  rw [State.afterTickDrive_pwminOf, State.afterTickDrive_pwmaxOf] at hwidth0 hwidth1
  exact ⟨rfl, _, _, _, _, _, runCommands_bbTick hcal hf0 hf1 hg0 hg1, State.afterTick_outcomes .., hevents, rfl, rfl, hwidth0,
    hwidth1, State.afterTick_err ..⟩

end Sys2Proof
end

section
/-! SUPPORT. What the fault rules rest on: the faults of a word and of a command, the one outcome of each, and what `ERR` does not
reach (60_exceptions.md R115 to R127). -/

namespace Sys2Proof

open Safety

/-! ## The words with a reserved bit set (R62, R116) -/

theorem reservedBitSet_iff (w : Word) :
    reservedBitSet w = true ↔ zOf w ≠ 0 ∨ (opOf w ≤ 3 ∧ rOf w ≠ 0) ∨
      ((opOf w = 1 ∨ opOf w = 5 ∨ opOf w = 6) ∧ immOf w ≠ 0) ∨ (opOf w = 2 ∧ 256 ≤ immOf w) := by
  simp only [reservedBitSet, Bool.or_eq_true, decide_eq_true_eq, or_assoc]

/-- The command the fields of a word with a legal opcode give, its reserved bits not looked at (R56). -/
def commandOfFields (w : Word) : Instr :=
  match opOf w with
  | 1 => .crcInit
  | 2 => .crcByte (immLow w)
  | 3 => .crcCheck (immField w)
  | 4 => .setr (rField w) (immField w)
  | 5 => .bbEval (rField w)
  | _ => .bbHold (rField w)

/-- The reserved fields that an opcode's decoding equation checks are R116's for that opcode. -/
theorem decode_eq_of_reserved_iff {w : Word} {p : Prop} [Decidable p] {i : Instr} (h : decode w = unlessReserved (decide p) i)
    (hp : p ↔ reservedBitSet w = true) : decode w = unlessReserved (reservedBitSet w) i := by
  rw [h, Bool.eq_iff_iff.mpr (decide_eq_true_iff.trans hp)]

/-- A word with a legal opcode is the command of its fields unless a reserved bit is 1 (R56, R63). -/
theorem decode_of_legal_opcode {w : Word} (hop : 1 ≤ opOf w ∧ opOf w ≤ 6) :
    decode w = unlessReserved (reservedBitSet w) (commandOfFields w) := by
  have hcases : opOf w = 1 ∨ opOf w = 2 ∨ opOf w = 3 ∨ opOf w = 4 ∨ opOf w = 5 ∨ opOf w = 6 := by omega
  have hreserved := reservedBitSet_iff w
  rw [commandOfFields]
  obtain h | h | h | h | h | h := hcases <;> rw [h] at hreserved ⊢
  · exact decode_eq_of_reserved_iff (decode_of_opOf_eq_one h) (by rw [hreserved]; omega)
  · exact decode_eq_of_reserved_iff (decode_of_opOf_eq_two h) (by rw [hreserved]; omega)
  · exact decode_eq_of_reserved_iff (decode_of_opOf_eq_three h) (by rw [hreserved]; omega)
  · exact decode_eq_of_reserved_iff (decode_of_opOf_eq_four h) (by rw [hreserved]; omega)
  · exact decode_eq_of_reserved_iff (decode_of_opOf_eq_five h) (by rw [hreserved]; omega)
  · exact decode_eq_of_reserved_iff (decode_of_opOf_eq_six h) (by rw [hreserved]; omega)

namespace Machine

/-! ## A step on a command word -/

section
variable {s : State} {w : Word} {rest : List PortInput}

theorem step_of_decode_ok {i : Instr} (input : s.inputs = .command w :: rest) (decoded : decode w = .ok i) :
    step s = exec i { s with inputs := rest } := by
  simp [step, takeInput, input, decoded]

theorem step_of_decode_error {c : FaultCode} (input : s.inputs = .command w :: rest) (decoded : decode w = .error c) :
    step s = .next (raiseFault c { s with inputs := rest }) := by
  simp [step, takeInput, input, decoded, takeFault]

end

/-! ## The fault of a BB command's checks (R118 to R120) -/

section
variable {s : State} {sv : Servo} {c : FaultCode}

theorem exec_bbEval_of_fault (h : operandFault s sv (evalOperands sv) = some c) :
    exec (.bbEval (servoIndex sv)) s = .next (raiseFault c s) :=
  (exec_bbEval _ s).trans (onServo_of_fault h)

theorem exec_bbHold_of_fault (h : operandFault s sv (holdOperands sv) = some c) :
    exec (.bbHold (servoIndex sv)) s = .next (raiseFault c s) :=
  (exec_bbHold _ s).trans (onServo_of_fault h)

end

/-! ## The sequence of outcomes (R13, R153) -/

@[simp] theorem raiseFault_outcomes (c : FaultCode) (s : State) : (raiseFault c s).outcomes = s.outcomes ++ [some c] := by
  simp [State.outcomes]

@[simp] theorem readPort_outcomes (idx : RegIdx) (s : State) : (readPort idx s).outcomes = s.outcomes := by
  simp [State.outcomes]

@[simp] theorem resetEvent_outcomes (s : State) : (resetEvent s).outcomes = s.outcomes := by
  simp [State.outcomes]

@[simp] theorem State.withInputs_outcomes (s : State) (ps : List PortInput) :
    ({ s with inputs := ps } : State).outcomes = s.outcomes := rfl

/-- A command that completes has the one outcome Ok; an event it emits is no outcome. -/
theorem Completes.outcomes {s t : State} {i : Instr} (done : Completes s i t) : t.outcomes = s.outcomes ++ [none] := by
  cases done with
  | crcInit => simp [State.outcomes]
  | crcByte b => simp [State.outcomes]
  | crcCheck f => simp [State.outcomes]
  | setr q v => exact State.afterSetr_outcomes s q v
  | bbEval sv => exact State.afterEval_outcomes s sv
  | bbHold sv => exact State.afterHold_outcomes s sv

/-! ## `ERR` (R122, R124) -/

/-- A command that completes leaves ERR as it is. -/
theorem Completes.err {s t : State} {i : Instr} (done : Completes s i t) : t.err = s.err := by
  cases done with
  | crcInit => rfl
  | crcByte b => rfl
  | crcCheck f => rfl
  | setr q v => exact State.afterSetr_err s q v
  | bbEval sv => exact State.afterEval_err s sv
  | bbHold sv => exact State.afterHold_err s sv

theorem State.writeOperand_withErr (s : State) (e : BitVec 4) (q : OpReg) (v : Half) :
    ({ s with err := e } : State).writeOperand q v = { s.writeOperand q v with err := e } := by
  rcases q with (_ | _) | (_ | _) | _ | (_ | _) | (_ | _) <;> rfl

theorem operandFault_withErr (s : State) (e : BitVec 4) (sv : Servo) (reads : List OpReg) :
    operandFault { s with err := e } sv reads = operandFault s sv reads := rfl

theorem emitAct_withErr (s : State) (e : BitVec 4) (sv : Servo) (pw : Half) :
    emitAct { s with err := e } sv pw = { emitAct s sv pw with err := e } := by
  cases sv <;> rfl

theorem holdServo_withErr (s : State) (e : BitVec 4) (sv : Servo) :
    holdServo { s with err := e } sv = { holdServo s sv with err := e } := emitAct_withErr s e sv _

theorem driveServo_withErr (s : State) (e : BitVec 4) (sv : Servo) (d : Decision) :
    driveServo { s with err := e } sv d = { driveServo s sv d with err := e } := by
  cases d with
  | hold => rfl
  | driveMin => exact emitAct_withErr s e sv _
  | driveMax => exact emitAct_withErr s e sv _

theorem State.setAct_withErr (s : State) (e : BitVec 4) (sv : Servo) (a : BitVec 2) :
    ({ s with err := e } : State).setAct sv a = { s.setAct sv a with err := e } := by
  cases sv <;> rfl

theorem evalServo_withErr (s : State) (e : BitVec 4) (sv : Servo) :
    evalServo { s with err := e } sv = { evalServo s sv with err := e } := by
  have hdecision : evalDecision { s with err := e } sv = evalDecision s sv := rfl
  rw [evalServo, hdecision, State.setAct_withErr, driveServo_withErr]
  rfl

/-- The answer is the same whatever `ERR` holds, but for `ERR` (R124). -/
def ErrBlind (f : State → Answer) : Prop :=
  ∀ (s t : State) (e : BitVec 4), f s = .next t → ∃ t', f { s with err := e } = .next t' ∧ t' = { t with err := t'.err }

theorem errBlind_takeFault (c : FaultCode) : ErrBlind (takeFault c) := by
  rintro s t e ⟨⟩
  exact ⟨_, rfl, rfl⟩

theorem errBlind_complete {f : State → State} (hf : ∀ s e, f { s with err := e } = { f s with err := e }) :
    ErrBlind fun s => complete (f s) := by
  rintro s t e ⟨⟩
  exact ⟨_, congrArg complete (hf s e), rfl⟩

theorem errBlind_execSetr (r : RegIdx) (v : Half) : ErrBlind (execSetr r v) := by
  unfold execSetr
  cases opRegOfIndex r with
  | none => exact errBlind_takeFault .badIndex
  | some q => exact errBlind_complete fun s e => by rw [State.writeOperand_withErr]; rfl

theorem errBlind_onServo {r : RegIdx} {reads : Servo → List OpReg} {effect : State → Servo → State}
    (heffect : ∀ s e sv, effect { s with err := e } sv = { effect s sv with err := e }) :
    ErrBlind (onServo r reads effect) := by
  intro s t e h
  obtain ⟨hr, hx⟩ | ⟨sv, c, rfl, hf, hx⟩ | ⟨sv, rfl, hf, hx⟩ := onServo_cases (r := r) (reads := reads) (effect := effect)
    (s := s) <;> cases hx.symm.trans h
  · exact ⟨_, onServo_of_bad_index ((servoOfIndex_eq_none r).mp hr), rfl⟩
  · exact ⟨_, onServo_of_fault ((operandFault_withErr s e sv _).trans hf), rfl⟩
  · refine ⟨_, onServo_of_ready ((operandFault_withErr s e sv _).trans hf), ?_⟩
    rw [heffect]
    rfl

theorem errBlind_exec (i : Instr) : ErrBlind (exec i) := by
  cases i with
  | crcInit => exact errBlind_complete fun _ _ => rfl
  | crcByte b => exact errBlind_complete fun _ _ => rfl
  | crcCheck f => exact errBlind_complete fun _ _ => rfl
  | setr r v => exact errBlind_execSetr r v
  | bbEval r => exact errBlind_onServo evalServo_withErr
  | bbHold r => exact errBlind_onServo holdServo_withErr

/-! ## The one outcome of a command (R121) -/

/-- A command that starts in `s` ends, and the one outcome it adds is `o`. -/
def Reports (s : State) (o : Option FaultCode) (a : Answer) : Prop := ∃ t, a = .next t ∧ t.outcomes = s.outcomes ++ [o]

theorem reports_raiseFault (c : FaultCode) (s : State) : Reports s (some c) (.next (raiseFault c s)) :=
  ⟨_, rfl, raiseFault_outcomes c s⟩

/-- A command that completes reports Ok. -/
theorem Completes.reports {s t : State} {i : Instr} (done : Completes s i t) : Reports s none (.next t) :=
  ⟨t, rfl, done.outcomes⟩

/-- The servo a BB command's word names (R60). -/
def servoOfWord (w : Word) : Servo := if rOf w = 0 then .servo0 else .servo1

theorem rField_eq_servoIndex {w : Word} (h : rOf w ≤ 1) : rField w = servoIndex (servoOfWord w) := by
  rw [← ofNat_rOf, servoOfWord]
  obtain h | h : rOf w = 0 ∨ rOf w = 1 := by omega
  all_goals rw [h]; rfl

/-- A BB word reports BAD_INDEX if its `r` field is no servo, else what the checks of its servo find. -/
theorem onServo_rField_reports {reads : Servo → List OpReg} {effect : State → Servo → State} {s : State} (w : Word)
    (heffect : ∀ sv, ((effect s sv).record .ok).outcomes = s.outcomes ++ [none]) :
    Reports s (if rOf w > 1 then some .badIndex else operandFault s (servoOfWord w) (reads (servoOfWord w)))
      (onServo (rField w) reads effect s) := by
  by_cases hr : rOf w > 1
  · rw [if_pos hr, onServo_of_bad_index (by rwa [← rOf_eq_toNat])]
    exact reports_raiseFault .badIndex s
  rw [if_neg hr, rField_eq_servoIndex (by omega)]
  cases hf : operandFault s (servoOfWord w) (reads (servoOfWord w)) with
  | some c =>
    rw [onServo_of_fault hf]
    exact reports_raiseFault c s
  | none =>
    rw [onServo_of_ready hf]
    exact ⟨_, rfl, heffect _⟩

theorem exec_setr_reports (s : State) (w : Word) (v : Half) :
    Reports s (if 4 ≤ rOf w ∧ rOf w ≤ 12 then none else some .badIndex) (exec (.setr (rField w) v) s) := by
  rw [rOf_eq_toNat]
  obtain ⟨q, hq⟩ | hr := regIdx_cases (rField w)
  · rw [hq, if_pos (opRegIndex_bounds q)]
    exact ⟨_, exec_setReg q v s, State.afterSetr_outcomes s q v⟩
  · rw [if_neg (by omega), exec_setr_of_not_writable hr]
    exact reports_raiseFault .badIndex s

/-! ## The first broken check, stage by stage (R121) -/

section
variable {s : State} {w : Word}

theorem firstBroken_of_illegal (h : ¬(1 ≤ opOf w ∧ opOf w ≤ 6)) : firstBroken s w = some .illegalOpcode := if_pos h

theorem firstBroken_of_reserved (hop : 1 ≤ opOf w ∧ opOf w ≤ 6) (h : reservedBitSet w = true) :
    firstBroken s w = some .reservedBits := by
  rw [firstBroken, if_neg (not_not.mpr hop), if_pos h]

theorem firstBroken_of_crc (hop : 1 ≤ opOf w ∧ opOf w ≤ 3) (h : reservedBitSet w = false) : firstBroken s w = none := by
  rw [firstBroken, if_neg (by omega), if_neg (by simp [h]), if_pos hop.2]

theorem firstBroken_of_setr (hop : opOf w = 4) (h : reservedBitSet w = false) :
    firstBroken s w = if 4 ≤ rOf w ∧ rOf w ≤ 12 then none else some .badIndex := by
  rw [firstBroken, if_neg (by omega), if_neg (by simp [h]), if_neg (by omega), if_pos hop]

/-- The operand checks, each as the condition under which it breaks (R118 to R120). -/
theorem operandFault_eq_ite (s : State) (sv : Servo) (reads : List OpReg) :
    operandFault s sv reads =
      if reads.any fun q => !s.isValid q then some .uninit
      else if pwminOf s sv ≥ pwmaxOf s sv then some .calInvalid
      else if feedbackOf s sv > 100 then some .sensorRange
      else none := by
  by_cases hv : ∀ q ∈ reads, s.isValid q = true
  · have hany : ¬(reads.any fun q => !s.isValid q) = true := by simpa using hv
    rw [if_neg hany]
    by_cases hcal : pwminOf s sv < pwmaxOf s sv
    · rw [if_neg (not_le.mpr hcal)]
      by_cases hfb : feedbackOf s sv ≤ 100
      · rw [if_neg (not_lt.mpr hfb), (operandFault_eq_none s sv reads).mpr ⟨hv, hcal, hfb⟩]
      · rw [if_pos (not_le.mp hfb), operandFault_eq_sensorRange hv hcal (not_le.mp hfb)]
    · rw [if_pos (not_lt.mp hcal), operandFault_eq_calInvalid hv (not_lt.mp hcal)]
  · rw [if_pos (by simpa using hv), operandFault_eq_uninit hv]

theorem firstBroken_of_bb (hop : opOf w = 5 ∨ opOf w = 6) (h : reservedBitSet w = false) :
    firstBroken s w = if rOf w > 1 then some .badIndex
      else operandFault s (servoOfWord w)
        (if opOf w = 5 then evalOperands (servoOfWord w) else holdOperands (servoOfWord w)) := by
  rw [firstBroken, if_neg (by omega), if_neg (by simp [h]), if_neg (by omega), if_neg (by omega), operandFault_eq_ite]
  rfl

end

/-- The command of a word without a reserved bit set reports the first of the checks left to it. -/
theorem exec_reports_firstBroken {w : Word} (hop : 1 ≤ opOf w ∧ opOf w ≤ 6) (h : reservedBitSet w = false) (s : State) :
    Reports s (firstBroken s w) (exec (commandOfFields w) s) := by
  have hcases : opOf w = 1 ∨ opOf w = 2 ∨ opOf w = 3 ∨ opOf w = 4 ∨ opOf w = 5 ∨ opOf w = 6 := by omega
  obtain h1 | h2 | h3 | h4 | h5 | h6 := hcases
  · rw [firstBroken_of_crc (by omega) h, commandOfFields, h1]
    exact Completes.crcInit.reports
  · rw [firstBroken_of_crc (by omega) h, commandOfFields, h2]
    exact (Completes.crcByte _).reports
  · rw [firstBroken_of_crc (by omega) h, commandOfFields, h3]
    exact (Completes.crcCheck _).reports
  · rw [firstBroken_of_setr h4 h, commandOfFields, h4]
    exact exec_setr_reports s w _
  · rw [firstBroken_of_bb (.inl h5) h, commandOfFields, h5]
    exact onServo_rField_reports w (State.afterEval_outcomes s)
  · rw [firstBroken_of_bb (.inr h6) h, commandOfFields, h6]
    exact onServo_rField_reports (reads := holdOperands) w (State.afterHold_outcomes s)

end Machine

end Sys2Proof
end

section
/-! The statements of 60_exceptions.md. -/

namespace Sys2Proof

open Machine Safety

/-- Settles O12: an index outside 4..12 names no writable register, and one above 1 no servo. -/
theorem badIndexFaults : Obligations.BadIndexFaults := fun s r v =>
  ⟨fun hr => exec_setr_of_not_writable hr v s, fun hr => (exec_bbEval r s).trans (onServo_of_bad_index hr),
    fun hr => (exec_bbHold r s).trans (onServo_of_bad_index hr)⟩

/-- Settles O11: both faults are the decoder's, so the state plays no part. -/
theorem illegalAndReservedWordsFault : Obligations.IllegalAndReservedWordsFault := by
  intro s w rest input
  refine ⟨fun hop => ?_, fun hlow hhigh hreserved => ?_⟩
  · exact step_of_decode_error input (decode_of_opOf_illegal (by omega))
  · have decoded := decode_of_legal_opcode ⟨hlow, hhigh⟩
    rw [hreserved] at decoded
    exact step_of_decode_error input decoded

/-- Settles O13: the VALID bits are the first of the operand checks. -/
theorem unwrittenOperandFaults : Obligations.UnwrittenOperandFaults := by
  refine fun s sv => ⟨fun hunwritten => exec_bbEval_of_fault (operandFault_eq_uninit ?_),
    fun hunwritten => exec_bbHold_of_fault (operandFault_eq_uninit ?_)⟩
  · rw [← evalWritten_iff]
    rintro ⟨htgt, hfb, htol, hmin, hmax⟩
    simp [htgt, hfb, htol, hmin, hmax] at hunwritten
  · rw [← holdWritten_iff]
    rintro ⟨hfb, hmin, hmax⟩
    simp [hfb, hmin, hmax] at hunwritten

/-- Settles O14: with the operands read written, the range is the first check that breaks. -/
theorem invalidCalibrationFaults : Obligations.InvalidCalibrationFaults := by
  intro s sv hfb hmin hmax hcal
  have hhold := (holdWritten_iff s sv).mp ⟨hfb, hmin, hmax⟩
  refine ⟨exec_bbHold_of_fault (operandFault_eq_calInvalid hhold hcal), fun htgt htol => ?_⟩
  have heval := (evalWritten_iff s sv).mp ⟨htgt, hfb, htol, hmin, hmax⟩
  exact exec_bbEval_of_fault (operandFault_eq_calInvalid heval hcal)

/-- Settles O15: with the operands read written and the range in order, the feedback is the check left. -/
theorem sensorRangeFaults : Obligations.SensorRangeFaults := by
  intro s sv hfb hmin hmax hcal hrange
  have hhold := (holdWritten_iff s sv).mp ⟨hfb, hmin, hmax⟩
  refine ⟨exec_bbHold_of_fault (operandFault_eq_sensorRange hhold hcal hrange), fun htgt htol => ?_⟩
  have heval := (evalWritten_iff s sv).mp ⟨htgt, hfb, htol, hmin, hmax⟩
  exact exec_bbEval_of_fault (operandFault_eq_sensorRange heval hcal hrange)

/-- Settles O16: the two checks of the word are the decoder's; the others are its command's, in the same order. -/
theorem firstBrokenCheckIsReported : Obligations.FirstBrokenCheckIsReported := by
  intro s w rest input
  by_cases hop : 1 ≤ opOf w ∧ opOf w ≤ 6
  · have decoded := decode_of_legal_opcode hop
    cases hreserved : reservedBitSet w with
    | true =>
      rw [hreserved] at decoded
      rw [firstBroken_of_reserved hop hreserved, step_of_decode_error input decoded]
      exact reports_raiseFault .reservedBits _
    | false =>
      rw [hreserved] at decoded
      rw [step_of_decode_ok input decoded]
      exact exec_reports_firstBroken hop hreserved { s with inputs := rest }
  · rw [firstBroken_of_illegal hop, step_of_decode_error input (decode_of_opOf_illegal hop)]
    exact reports_raiseFault .illegalOpcode _

/-- Settles O17: of the cases of a step, only a fault of a command word adds a fault to the outcomes. -/
theorem faultEntryKeepsEverythingElse : Obligations.FaultEntryKeepsEverythingElse := by
  intro s t c h houtcome
  cases step_next h with
  | held => simp at houtcome
  | read => simp at houtcome
  | reset => simp at houtcome
  | @faulted w rest c' input =>
    obtain rfl : c' = c := by simpa using houtcome
    exact ⟨by simp, w, rest, input, rfl⟩
  | completed input decoded done => simp [done.outcomes] at houtcome

/-- Settles O18: a reset event writes 0; a fault keeps a code that is not 0, and nothing else writes `ERR`. -/
theorem onlyResetClearsErr : Obligations.OnlyResetClearsErr := by
  intro s t h herr
  cases step_next h with
  | held empty => simp [empty]
  | read input => simp [input]
  | reset input => simp [input]
  | faulted c input => simp [input, errAfter_of_ne_zero herr]
  | completed input decoded done => simp [input, done.err]

/-- Settles O19: no check reads `ERR`, and each command's effect is the same but for `ERR`. -/
theorem commandsRunTheSameUnderAnyErr : Obligations.CommandsRunTheSameUnderAnyErr := errBlind_exec

end Sys2Proof
end

section
/-! SUPPORT. The operand and servo registers of the block right after reset, and a step on a reset event
(70_reset_and_hazards.md R137). -/

namespace Sys2Proof.Machine

@[simp] theorem State.reset_operand (q : OpReg) : State.reset.operand q = 0#16 := by
  rcases q with (_ | _) | (_ | _) | _ | (_ | _) | (_ | _) <;> rfl

@[simp] theorem State.reset_pwout (sv : Servo) : State.reset.pwout sv = 0#16 := by cases sv <;> rfl

@[simp] theorem State.reset_act (sv : Servo) : State.reset.act sv = 0#2 := by cases sv <;> rfl

/-- A reset event leaves in the operand registers what the block right after reset has in them. -/
@[simp] theorem resetEvent_operand (s : State) (q : OpReg) : (resetEvent s).operand q = 0#16 :=
  (State.operand_congr rfl rfl rfl rfl rfl rfl rfl rfl rfl q).trans (State.reset_operand q)

/-- A step on a reset input is the reset event, with the input taken (R136). -/
theorem step_of_reset {s : State} {rest : List PortInput} (input : s.inputs = .reset :: rest) :
    step s = .next (resetEvent { s with inputs := rest }) := by
  simp [step, takeInput, input]

end Sys2Proof.Machine
end

section
/-! The statements of 70_reset_and_hazards.md on reset. -/

namespace Sys2Proof

open Machine Safety

/-- Settles O52: the step is the reset event, which writes every register and adds to the history no event. -/
theorem resetClearsEveryRegister : Obligations.ResetClearsEveryRegister := by
  intro s rest input
  exact ⟨resetEvent { s with inputs := rest }, step_of_reset input, rfl, rfl, rfl, resetEvent_operand _, rfl,
    fun sv => ⟨resetEvent_pwout _ sv, resetEvent_act _ sv⟩, rfl, resetEvent_events _⟩

/-- Settles O53: each register is at its reset value, and a history that is empty holds no event. -/
theorem resetStateIsACleanEntry : Obligations.ResetStateIsACleanEntry := by
  have clean : CleanEntry State.reset := ⟨rfl, rfl, rfl, fun _ => rfl⟩
  exact ⟨clean, rfl, State.reset_operand, fun sv => ⟨State.reset_pwout sv, State.reset_act sv⟩, rfl⟩

end Sys2Proof
end

section
/-! The statements of 30_encoding.md on the encoder and the assembler. -/

namespace Sys2Proof

/-- Settles O1: the decoder reads the fields of a command's word back, each whole. -/
theorem decodeOfEncode : Obligations.DecodeOfEncode := decode_encode

/-- Settles O2: the decoder checks every field a command does not use, so the word is the command's. -/
theorem encodeOfDecode : Obligations.EncodeOfDecode := fun _ _ decoded => (eq_encode_of_decode_eq_ok decoded).symm

/-- Settles O4: each example word is its command's word. -/
theorem exampleWordsDecode : Obligations.ExampleWordsDecode :=
  ⟨decode_encode .crcInit, decode_encode (.crcByte 0x32#8), decode_encode (.crcCheck 0x0213#16),
    decode_encode (.setr 0x9#4 1100#16), decode_encode (.bbEval 0#4), decode_encode (.bbEval 1#4),
    decode_encode (.bbHold 0#4), decode_encode (.bbHold 1#4)⟩

/-- Settles O5: the assembler evaluated on each line. -/
theorem assemblerLinesGiveTheirWords : Obligations.AssemblerLinesGiveTheirWords := by
  unfold Obligations.AssemblerLinesGiveTheirWords
  decide

end Sys2Proof
end

section
/-! SUPPORT. What a completed command does to the fields the invariants speak of: the checksum and its stream, the history with
`PWOUT`, and the operand registers with `VALID` (10_state.md R17 to R27). -/

namespace Sys2Proof.Machine

open Safety

@[simp] theorem evalServo_crcStream (s : State) (sv : Servo) : (evalServo s sv).crcStream = s.crcStream := by
  obtain h | ⟨pw, h⟩ := evalServo_cases s sv <;> simp [h]

/-- A command that completes keeps `crc` the checksum of the stream: CRC_INIT empties both, CRC_BYTE extends both by one byte
(R79, R81). -/
theorem Completes.crcTracksStream {s t : State} {i : Instr} (done : Completes s i t) (h : CrcTracksStream s) :
    CrcTracksStream t := by
  unfold CrcTracksStream at h ⊢
  cases done with
  | crcInit => rfl
  | crcByte b => simp [h, crc15]
  | crcCheck f => exact h
  | setr q v => simpa using h
  | bbEval sv => simpa using h
  | bbHold sv => simpa using h

/-- A command that completes records its Ok and, if it emits, the event before it, whose servo's `PWOUT` it writes (R27). -/
theorem Completes.history {s t : State} {i : Instr} (done : Completes s i t) :
    (t.history = s.history ++ [.ok] ∧ ∀ sv, t.pwout sv = s.pwout sv) ∨
      ∃ e : ActEvent, t.history = s.history ++ [.act e, .ok] ∧
        ∀ sv, t.pwout sv = if sv = e.servo then e.width else s.pwout sv := by
  cases done with
  | crcInit => exact .inl ⟨rfl, fun _ => by simp⟩
  | crcByte b => exact .inl ⟨rfl, fun _ => by simp⟩
  | crcCheck f => exact .inl ⟨rfl, fun _ => by simp⟩
  | setr q v => exact .inl ⟨by simp, fun _ => by simp⟩
  | bbEval sv =>
    obtain h | ⟨pw, h⟩ := evalServo_cases s sv
    · exact .inl ⟨by simp [h], fun _ => by simp [h]⟩
    · exact .inr ⟨⟨sv, pw⟩, by simp [h], fun _ => by simp [h, emitAct_pwout]⟩
  | bbHold sv => exact .inr ⟨⟨sv, holdWidth s sv⟩, by simp, fun _ => by simp [emitAct_pwout]⟩

/-- An operand register and its VALID bit stay, or the command is a SETR of that register (R26, R91). -/
theorem Completes.operand {s t : State} {i : Instr} (done : Completes s i t) (q : OpReg) :
    (t.operand q = s.operand q ∧ t.isValid q = s.isValid q) ∨
      ∃ v, i = .setr (opRegIndex q) v ∧ t.operand q = v ∧ t.isValid q = true := by
  cases done with
  | crcInit => exact .inl ⟨by simp, by simp⟩
  | crcByte b => exact .inl ⟨by simp, by simp⟩
  | crcCheck f => exact .inl ⟨by simp, by simp⟩
  | setr p v =>
    by_cases hq : q = p
    · subst hq
      exact .inr ⟨v, rfl, by simp, by simp [State.markValid_isValid]⟩
    · exact .inl ⟨by simp [State.operand_writeOperand, hq], by simp [State.markValid_isValid, hq]⟩
  | bbEval sv => exact .inl ⟨by simp, by simp⟩
  | bbHold sv => exact .inl ⟨by simp, by simp⟩

/-- A command that completes clears no VALID bit. -/
theorem Completes.isValid_mono {s t : State} {i : Instr} (done : Completes s i t) {q : OpReg} (h : s.isValid q = true) :
    t.isValid q = true := by
  obtain ⟨-, hvalid⟩ | ⟨v, -, -, hvalid⟩ := done.operand q
  · exact hvalid.trans h
  · exact hvalid

/-- A servo whose decision a command writes has the comparator's operands written: BB_EVAL has checked them (R118). -/
theorem Completes.evalOperands_written {s t : State} {i : Instr} (done : Completes s i t) (sw : Servo) :
    t.act sw = s.act sw ∨ ∀ q ∈ evalOperands sw, s.isValid q = true := by
  cases done with
  | crcInit => exact .inl (by simp)
  | crcByte b => exact .inl (by simp)
  | crcCheck f => exact .inl (by simp)
  | setr q v => exact .inl (by simp)
  | bbEval sv ready =>
    by_cases hsw : sw = sv
    · subst hsw
      exact .inr ((operandFault_eq_none _ _ _).mp ready).1
    · exact .inl (by simp [evalServo_act, hsw])
  | bbHold sv => exact .inl (by simp)

@[simp] theorem resetEvent_isValid (s : State) (q : OpReg) : (resetEvent s).isValid q = false := BitVec.getLsbD_zero

/-- A completed command adds no fault to those since the last reset. -/
theorem Completes.firstFault {s t : State} {i : Instr} (done : Completes s i t) :
    firstFault (sinceReset t.history) = firstFault (sinceReset s.history) := by
  obtain ⟨h, -⟩ | ⟨e, h, -⟩ := done.history <;> simp [h]

/-- A fault is the first since the last reset exactly if `ERR` holds none before it (R122). -/
theorem errIsFirstFault_raiseFault {s : State} (h : ErrIsFirstFault s) (c : FaultCode) :
    ErrIsFirstFault (raiseFault c s) := by
  unfold ErrIsFirstFault at h ⊢
  cases hf : firstFault (sinceReset s.history) with
  | none => simp [h, hf]
  | some d => simp [h, hf, errAfter_of_ne_zero]

end Sys2Proof.Machine
end

section
/-! The statements of 10_state.md, 40_crc15.md and 70_reset_and_hazards.md on the invariants, and on who writes an operand
register. -/

namespace Sys2Proof

open Machine Safety

/-- Settles O41: by the cases of a step, and for a completed command by what it does to the register. -/
theorem operandsHaveNoOtherWriter : Obligations.OperandsHaveNoOtherWriter := by
  intro s t q h
  cases step_next h with
  | held => exact .inl ⟨rfl, rfl⟩
  | read => exact .inl ⟨by simp, by simp⟩
  | reset input => exact .inr (.inl ⟨by simp [input], by simp, by simp⟩)
  | faulted => exact .inl ⟨by simp, by simp⟩
  | @completed w rest i _ input decoded done =>
    obtain ⟨hoperand, hvalid⟩ | ⟨v, rfl, hoperand, hvalid⟩ := done.operand q
    · exact .inl ⟨by simp [hoperand], by simp [hvalid]⟩
    · exact .inr (.inr ⟨w, rest, v, input, decoded, hoperand, hvalid⟩)

/-- Settles O55: nothing is observed at reset, and every register is 0. -/
theorem resetMeetsTheInvariants : Obligations.ResetMeetsTheInvariants :=
  ⟨rfl, rfl, State.reset_pwout, fun q _ => State.reset_operand q, fun sv hact => absurd (State.reset_act sv) hact⟩

/-- Settles O56: CRC_INIT and reset empty the stream and the checksum, CRC_BYTE extends both, nothing else writes either. -/
theorem stepKeepsCrcTheChecksumOfItsStream : Obligations.StepKeepsCrcTheChecksumOfItsStream := by
  intro s t hs h
  cases step_next h with
  | held => exact hs
  | read => exact hs
  | reset => rfl
  | faulted => exact hs
  | completed input decoded done => exact done.crcTracksStream hs

/-- Settles O57: a fault is kept if `ERR` holds none, a reset starts anew, and nothing else adds a fault or writes `ERR`. -/
theorem stepKeepsErrTheFirstFault : Obligations.StepKeepsErrTheFirstFault := by
  intro s t hs h
  cases step_next h with
  | held => exact hs
  | read => simpa [ErrIsFirstFault] using hs
  | reset => simp [ErrIsFirstFault, firstFault]
  | faulted c => exact errIsFirstFault_raiseFault hs c
  | completed input decoded done =>
    rw [ErrIsFirstFault, done.err, done.firstFault]
    exact hs

/-- Settles O58: each event adds its width to its servo's list and writes that servo's `PWOUT`; nothing but a reset does more. -/
theorem stepKeepsPwoutTheLastEmittedWidth : Obligations.StepKeepsPwoutTheLastEmittedWidth := by
  intro s t hs h sv
  have hsv := hs sv
  cases step_next h with
  | held => exact hsv
  | read => simpa using hsv
  | reset => simp [widthsOf]
  | faulted => simpa using hsv
  | completed input decoded done =>
    obtain ⟨hhistory, hpwout⟩ | ⟨e, hhistory, hpwout⟩ := done.history
    · simpa [hhistory, hpwout] using hsv
    · by_cases he : e.servo = sv
      · simp [hhistory, hpwout, he]
      · simpa [hhistory, hpwout, he, Ne.symm he] using hsv

/-- An operand register keeps 0 until the SETR that marks it valid, or is 0 from a reset (R26, R138). -/
theorem step_keeps_unwrittenOperandsAreZero {s t : State} (hs : UnwrittenOperandsAreZero s) (h : step s = .next t) :
    UnwrittenOperandsAreZero t := by
  intro q hq
  obtain ⟨hoperand, hvalid⟩ | ⟨-, hoperand, -⟩ | ⟨_, _, _, -, -, -, hvalid⟩ := operandsHaveNoOtherWriter s t q h
  · rw [hoperand]
    exact hs q (hvalid.symm.trans hq)
  · exact hoperand
  · simp [hvalid] at hq

/-- A decision is written once the operands are, and VALID bits are cleared by the reset that clears the decision alone. -/
theorem step_keeps_decisionNeedsOperands {s t : State} (hs : DecisionNeedsOperands s) (h : step s = .next t) :
    DecisionNeedsOperands t := by
  intro sv hact q hq
  cases step_next h with
  | held => exact hs sv hact q hq
  | read => simpa using hs sv (by simpa using hact) q hq
  | reset => simp at hact
  | faulted => simpa using hs sv (by simpa using hact) q hq
  | completed input decoded done =>
    apply done.isValid_mono
    obtain hsame | hwritten := done.evalOperands_written sv
    · exact hs sv (by simpa [hsame] using hact) q hq
    · exact hwritten q hq

/-- Settles O59: the two invariants are kept each by itself. -/
theorem stepKeepsValidMeaningful : Obligations.StepKeepsValidMeaningful := fun _ _ hzero hdecision h =>
  ⟨step_keeps_unwrittenOperandsAreZero hzero h, step_keeps_decisionNeedsOperands hdecision h⟩

end Sys2Proof
end

section
/-! SUPPORT. That every command completes, what the inputs still to be taken change of it (nothing), and the fault of a command
with an illegal index (00_scope.md R13, 10_state.md R29, 30_encoding.md R63). -/

namespace Sys2Proof.Machine

/-! ## Every command has a next state (R13) -/

theorem onServo_completes (r : RegIdx) (reads : Servo → List OpReg) (effect : State → Servo → State) (s : State) :
    ∃ t, onServo r reads effect s = .next t := by
  obtain ⟨-, hx⟩ | ⟨_, _, -, -, hx⟩ | ⟨_, -, -, hx⟩ := onServo_cases (r := r) (reads := reads) (effect := effect) (s := s)
  all_goals exact ⟨_, hx⟩

theorem exec_completes (i : Instr) (s : State) : ∃ t, exec i s = .next t := by
  cases i with
  | crcInit => exact ⟨_, rfl⟩
  | crcByte b => exact ⟨_, rfl⟩
  | crcCheck f => exact ⟨_, rfl⟩
  | setr r v =>
    obtain ⟨q, rfl⟩ | hr := regIdx_cases r
    · exact ⟨_, exec_setReg q v s⟩
    · exact ⟨_, exec_setr_of_not_writable hr v s⟩
  | bbEval r => exact onServo_completes r evalOperands evalServo s
  | bbHold r => exact onServo_completes r holdOperands holdServo s

/-! ## A command with an illegal index (R117) -/

theorem setr_wellFormed (r : RegIdx) (v : Half) : (Instr.setr r v).WellFormed ↔ 4 ≤ r.toNat ∧ r.toNat ≤ 12 := by
  simp [Instr.WellFormed, Instr.wellFormed]

theorem exec_of_not_wellFormed {i : Instr} (h : ¬i.WellFormed) (s : State) : exec i s = .next (raiseFault .badIndex s) := by
  cases i with
  | crcInit => exact absurd rfl h
  | crcByte b => exact absurd rfl h
  | crcCheck f => exact absurd rfl h
  | setr r v =>
    rw [setr_wellFormed] at h
    exact exec_setr_of_not_writable (by omega) v s
  | bbEval r => exact (exec_bbEval r s).trans (onServo_of_bad_index (by simpa [Instr.WellFormed, Instr.wellFormed] using h))
  | bbHold r => exact (exec_bbHold r s).trans (onServo_of_bad_index (by simpa [Instr.WellFormed, Instr.wellFormed] using h))

/-- R63's fault code is that of `decode`, or BAD_INDEX for a command with an illegal index. -/
theorem decodeChecked_eq_error {w : Word} {c : FaultCode} (h : decodeChecked w = .error c) :
    decode w = .error c ∨ ∃ i, decode w = .ok i ∧ ¬i.WellFormed ∧ c = .badIndex := by
  unfold decodeChecked at h
  cases decoded : decode w with
  | error d =>
    rw [decoded] at h
    exact .inl h
  | ok i =>
    rw [decoded] at h
    by_cases hi : i.WellFormed
    · simp [hi] at h
    · exact .inr ⟨i, rfl, hi, by simpa [hi, eq_comm] using h⟩

/-! ## No command sees the inputs still to be taken (R29) -/

theorem State.writeOperand_withInputs (s : State) (ps : List PortInput) (q : OpReg) (v : Half) :
    ({ s with inputs := ps } : State).writeOperand q v = { s.writeOperand q v with inputs := ps } := by
  rcases q with (_ | _) | (_ | _) | _ | (_ | _) | (_ | _) <;> rfl

theorem State.setAct_withInputs (s : State) (ps : List PortInput) (sv : Servo) (a : BitVec 2) :
    ({ s with inputs := ps } : State).setAct sv a = { s.setAct sv a with inputs := ps } := by
  cases sv <;> rfl

theorem emitAct_withInputs (s : State) (ps : List PortInput) (sv : Servo) (pw : Half) :
    emitAct { s with inputs := ps } sv pw = { emitAct s sv pw with inputs := ps } := by
  cases sv <;> rfl

theorem driveServo_withInputs (s : State) (ps : List PortInput) (sv : Servo) (d : Decision) :
    driveServo { s with inputs := ps } sv d = { driveServo s sv d with inputs := ps } := by
  cases d with
  | hold => rfl
  | driveMin => exact emitAct_withInputs s ps sv _
  | driveMax => exact emitAct_withInputs s ps sv _

theorem evalServo_withInputs (s : State) (ps : List PortInput) (sv : Servo) :
    evalServo { s with inputs := ps } sv = { evalServo s sv with inputs := ps } := by
  have hdecision : evalDecision { s with inputs := ps } sv = evalDecision s sv := rfl
  rw [evalServo, hdecision, State.setAct_withInputs, driveServo_withInputs]
  rfl

theorem onServo_withInputs {r : RegIdx} {reads : Servo → List OpReg} {effect : State → Servo → State}
    (heffect : ∀ s ps sv, effect { s with inputs := ps } sv = { effect s sv with inputs := ps }) {s t : State}
    (h : onServo r reads effect s = .next t) (ps : List PortInput) :
    onServo r reads effect { s with inputs := ps } = .next { t with inputs := ps } := by
  have hcheck : ∀ sv, operandFault { s with inputs := ps } sv (reads sv) = operandFault s sv (reads sv) := fun _ => rfl
  obtain ⟨hr, hx⟩ | ⟨sv, c, rfl, hf, hx⟩ | ⟨sv, rfl, hf, hx⟩ := onServo_cases (r := r) (reads := reads) (effect := effect)
    (s := s) <;> cases hx.symm.trans h
  · exact onServo_of_bad_index ((servoOfIndex_eq_none r).mp hr)
  · exact onServo_of_fault ((hcheck sv).trans hf)
  · rw [onServo_of_ready ((hcheck sv).trans hf), heffect]
    rfl

theorem exec_withInputs {i : Instr} {s t : State} (h : exec i s = .next t) (ps : List PortInput) :
    exec i { s with inputs := ps } = .next { t with inputs := ps } := by
  cases i with
  | crcInit => cases h; rfl
  | crcByte b => cases h; rfl
  | crcCheck f => cases h; rfl
  | setr r v =>
    obtain ⟨q, rfl⟩ | hr := regIdx_cases r
    · cases (exec_setReg q v s).symm.trans h
      refine (exec_setReg q v _).trans ?_
      rw [State.afterSetr, State.writeOperand_withInputs]
      rfl
    · cases (exec_setr_of_not_writable hr v s).symm.trans h
      exact exec_setr_of_not_writable hr v _
  | bbEval r => exact onServo_withInputs evalServo_withInputs h ps
  | bbHold r => exact onServo_withInputs (effect := holdServo) (fun s ps sv => emitAct_withInputs s ps sv _) h ps

/-- A command takes no input: with its own inputs put in for its inputs it does the same. -/
theorem exec_keeps_inputs {i : Instr} {s t : State} (h : exec i s = .next t) : t.inputs = s.inputs := by
  have hsame : t = { t with inputs := s.inputs } := Host.Outcome.next.inj (h.symm.trans (exec_withInputs h s.inputs))
  rw [hsame]

/-- A run goes on from the next state of its first step. -/
theorem run_succ_of_step {M : Host.Core} {s t : M.State} (h : M.step s = .next t) (k : Nat) :
    M.run (k + 1) s = M.run k t := by
  rw [Host.Core.run, h]

end Sys2Proof.Machine
end

section
/-! The statements of 00_scope.md and 20_memory.md on a step and a sequence of steps. -/

namespace Sys2Proof

open Machine

/-- Settles O7: the step takes the word and executes what it decodes to. -/
theorem stepRunsTheDecodedCommand : Obligations.StepRunsTheDecodedCommand := fun _ _ _ _ => step_of_decode_ok

/-- Settles O8: the fault is the decoder's, or the index check's, which the command makes before it looks at the state. -/
theorem stepTakesTheDecodeFault : Obligations.StepTakesTheDecodeFault := by
  intro s w rest c input hchecked
  obtain decoded | ⟨i, decoded, hi, rfl⟩ := decodeChecked_eq_error hchecked
  · exact step_of_decode_error input decoded
  · exact (step_of_decode_ok input decoded).trans (exec_of_not_wellFormed hi _)

/-- Settles O9: every case of a step answers a next state, and with nothing presented it is the state itself. -/
theorem everyStepCompletes : Obligations.EveryStepCompletes := by
  intro s
  obtain ⟨-, hx⟩ | ⟨_, _, input, hx⟩ | ⟨_, input, hx⟩ | ⟨_, rest, i, input, -, hx⟩ | ⟨_, _, _, input, -, hx⟩ :=
    step_cases (s := s)
  · exact ⟨s, hx, fun _ => rfl⟩
  · exact ⟨_, hx, by simp [input]⟩
  · exact ⟨_, hx, by simp [input]⟩
  · obtain ⟨t, ht⟩ := exec_completes i { s with inputs := rest }
    exact ⟨t, hx.trans ht, by simp [input]⟩
  · exact ⟨_, hx, by simp [input]⟩

/-- Settles O10: by induction on the commands; each step runs the first one, which does not see the words still presented. -/
theorem presentedWordsRunInOrder : Obligations.PresentedWordsRunInOrder := by
  intro is
  induction is with
  | nil =>
    rintro s rest rfl
    rfl
  | cons i is ih =>
    intro s rest input
    obtain ⟨t, ht⟩ := exec_completes i { s with inputs := presentation is ++ rest }
    have hstep : step s = .next t := (step_of_decode_ok input (decode_encode i)).trans ht
    rw [List.length_cons, run_succ_of_step (M := Sys2Proof.core) hstep, runCommands_cons (exec_withInputs ht rest)]
    exact ih t rest (exec_keeps_inputs ht)

end Sys2Proof
end

section
/-! SUPPORT. The CRC as a fold over bits: what one flipped bit does to it, the parity it keeps, and the period of the step by a 0
bit (40_crc15.md R75, R76, R87, R89). -/

namespace Sys2Proof.Machine

open Safety

/-! ## The fold over bits -/

/-- The bit steps of a sequence of bits, in order (R75). -/
def crcBits (c : CrcWord) (l : List Bool) : CrcWord := l.foldl crcBit c

@[simp] theorem crcBits_nil (c : CrcWord) : crcBits c [] = c := rfl

@[simp] theorem crcBits_cons (c : CrcWord) (b : Bool) (l : List Bool) : crcBits c (b :: l) = crcBits (crcBit c b) l := rfl

/-- The checksum is the fold over the folded bits (R76, R87). -/
theorem crc15From_eq_crcBits (c : CrcWord) (bs : List Byte) : crc15From c bs = crcBits c (foldedBits bs) := by
  rw [crcBits, foldedBits, List.foldl_flatMap]
  simp only [List.foldl_map]
  rfl

theorem crc15_eq_crcBits (bs : List Byte) : crc15 bs = crcBits 0#15 (foldedBits bs) := crc15From_eq_crcBits _ bs

/-! ## The folded bits of a sequence -/

@[simp] theorem foldedBits_nil : foldedBits [] = [] := rfl

theorem foldedBits_cons (x : Byte) (bs : List Byte) :
    foldedBits (x :: bs) = x.getLsbD 0 :: x.getLsbD 1 :: x.getLsbD 2 :: x.getLsbD 3 :: x.getLsbD 4 :: x.getLsbD 5 ::
      x.getLsbD 6 :: foldedBits bs := rfl

@[simp] theorem foldedBits_length (bs : List Byte) : (foldedBits bs).length = 7 * bs.length := by
  induction bs with
  | nil => rfl
  | cons x bs ih =>
    simp only [foldedBits_cons, List.length_cons, ih]
    omega

theorem foldedBits_zipWith_xor (a e : List Byte) :
    foldedBits (List.zipWith (· ^^^ ·) a e) = List.zipWith Bool.xor (foldedBits a) (foldedBits e) := by
  induction a generalizing e with
  | nil => rfl
  | cons x a ih =>
    cases e with
    | nil => simp
    | cons y e => simp [foldedBits_cons, ih]

/-- `flipFolded` flips the folded bit it counts to. -/
theorem foldedBits_flipFolded (bs : List Byte) (n : Nat) : foldedBits (flipFolded bs n) = (foldedBits bs).modify n not := by
  induction bs generalizing n with
  | nil => simp [flipFolded]
  | cons x bs ih =>
    by_cases hn : n < 7
    · have hcases : n = 0 ∨ n = 1 ∨ n = 2 ∨ n = 3 ∨ n = 4 ∨ n = 5 ∨ n = 6 := by omega
      obtain rfl | rfl | rfl | rfl | rfl | rfl | rfl := hcases <;> simp [flipFolded, foldedBits_cons]
    · obtain ⟨m, rfl⟩ := Nat.exists_eq_add_of_le' (not_lt.mp hn)
      have hnext : flipFolded (x :: bs) (m + 7) = x :: flipFolded bs m := by simp [flipFolded]
      simp only [hnext, foldedBits_cons, ih, List.modify_succ_cons]

/-! ## What a flipped bit does to the checksum (R85, R87) -/

/-- The step by a 0 bit. -/
def zeroStep (d : CrcWord) : CrcWord := crcBit d false

theorem crcBit_xor_left (c d : CrcWord) (b : Bool) : crcBit (c ^^^ d) b = crcBit c b ^^^ zeroStep d := by
  rw [zeroStep, ← crcBit_xor, Bool.xor_false]

theorem crcBit_not (c : CrcWord) (b : Bool) : crcBit c (!b) = crcBit c b ^^^ Config.crcPoly := by
  have hone : crcBit 0#15 true = Config.crcPoly := by decide
  rw [← hone, ← crcBit_xor, BitVec.xor_zero, Bool.xor_true]

/-- A difference of two states goes through the bits that follow as through as many 0 bits. -/
theorem crcBits_xor_left (c d : CrcWord) (l : List Bool) : crcBits (c ^^^ d) l = crcBits c l ^^^ zeroStep^[l.length] d := by
  induction l generalizing c d with
  | nil => rfl
  | cons b l ih => rw [crcBits_cons, crcBit_xor_left, ih, crcBits_cons, List.length_cons, Function.iterate_succ_apply]

/-- A flipped bit adds the constant, stepped by the bits that follow the flipped one. -/
theorem crcBits_modify_not (c : CrcWord) (l : List Bool) {n : Nat} (hn : n < l.length) :
    crcBits c (l.modify n not) = crcBits c l ^^^ zeroStep^[l.length - 1 - n] Config.crcPoly := by
  induction l generalizing c n with
  | nil => simp at hn
  | cons b l ih =>
    cases n with
    | zero => simp [crcBit_not, crcBits_xor_left]
    | succ n =>
      have hlength : l.length + 1 - 1 - (n + 1) = l.length - 1 - n := by omega
      rw [List.modify_succ_cons, crcBits_cons, ih _ (Nat.succ_lt_succ_iff.mp hn), crcBits_cons, List.length_cons, hlength]

theorem crc15_flipFolded {bs : List Byte} {n : Nat} (hn : n < 7 * bs.length) :
    crc15 (flipFolded bs n) = crc15 bs ^^^ zeroStep^[7 * bs.length - 1 - n] Config.crcPoly := by
  rw [crc15_eq_crcBits, foldedBits_flipFolded, crcBits_modify_not _ _ (by simpa), foldedBits_length, crc15_eq_crcBits]

@[simp] theorem flipFolded_length (bs : List Byte) (n : Nat) : (flipFolded bs n).length = bs.length := List.length_modify ..

/-! ## The step by a 0 bit loses nothing, and has the period 127 on the constant (R87) -/

/-- The lowest bit of the next state is bit 14 of this one, and the others are the shift's but for that bit's feedback. -/
theorem zeroStep_injective : Function.Injective zeroStep := by
  intro c d h
  have htop : c.getLsbD 14 = d.getLsbD 14 := by
    have hlow : (zeroStep c).getLsbD 0 = (zeroStep d).getLsbD 0 := by rw [h]
    rwa [zeroStep, zeroStep, crcBit_getLsbD_zero, crcBit_getLsbD_zero, Bool.false_xor, Bool.false_xor] at hlow
  have hshift : c <<< 1 = d <<< 1 := by
    rwa [zeroStep, zeroStep, crcBit_eq_xor_feedbackTerm, crcBit_eq_xor_feedbackTerm, htop, BitVec.xor_left_inj] at h
  refine BitVec.eq_of_getLsbD_eq fun i hi => ?_
  by_cases h14 : i = 14
  · rw [h14, htop]
  · have hbit := congrArg (BitVec.getLsbD · (i + 1)) hshift
    simpa [show i + 1 < 15 by omega, BitVec.getLsbD_eq_getElem hi] using hbit

theorem zeroStep_iterate_poly_ne_zero (k : Nat) : zeroStep^[k] Config.crcPoly ≠ 0#15 := by
  have hzero : zeroStep 0#15 = 0#15 := by decide
  intro h
  rw [← Function.iterate_fixed hzero k] at h
  exact absurd (zeroStep_injective.iterate k h) (by decide)

theorem zeroStep_iterate_period : zeroStep^[127] Config.crcPoly = Config.crcPoly := by decide +kernel

/-! ## Parity: the constant has an odd number of bits set (R87) -/

/-- The parity of the low `n` bits of a state. -/
def parityBelow (c : CrcWord) : Nat → Bool
  | 0 => false
  | n + 1 => parityBelow c n ^^ c.getLsbD n

theorem parityBelow_xor (c d : CrcWord) (n : Nat) : parityBelow (c ^^^ d) n = (parityBelow c n ^^ parityBelow d n) := by
  induction n with
  | zero => rfl
  | succ n ih =>
    rw [parityBelow, parityBelow, parityBelow, ih, BitVec.getLsbD_xor, Bool.xor_assoc, Bool.xor_assoc,
      Bool.xor_left_comm (parityBelow d n)]

/-- The shift moves the low bits one place up. -/
theorem parityBelow_shiftLeft_one (c : CrcWord) {n : Nat} (hn : n ≤ 14) :
    parityBelow (c <<< 1) (n + 1) = parityBelow c n := by
  induction n with
  | zero => simp [parityBelow]
  | succ n ih =>
    have hbit : (c <<< 1).getLsbD (n + 1) = c.getLsbD n := by
      simp [show n + 1 < 15 by omega, BitVec.getLsbD_eq_getElem (show n < 15 by omega)]
    rw [parityBelow, ih (by omega), hbit, parityBelow]

/-- The parity of a state's bits. -/
def bitParity (c : CrcWord) : Bool := parityBelow c 15

theorem bitParity_feedbackTerm (fb : Bool) : bitParity (feedbackTerm fb) = fb := by revert fb; decide

/-- A bit step adds its input bit to the parity: the shift loses bit 14, which the feedback gives back. -/
theorem bitParity_crcBit (c : CrcWord) (b : Bool) : bitParity (crcBit c b) = (bitParity c ^^ b) := by
  have hshift : bitParity (c <<< 1) = parityBelow c 14 := parityBelow_shiftLeft_one c le_rfl
  have hparity : bitParity c = (parityBelow c 14 ^^ c.getLsbD 14) := rfl
  have hxor : bitParity (c <<< 1 ^^^ feedbackTerm (b ^^ c.getLsbD 14)) =
      (bitParity (c <<< 1) ^^ bitParity (feedbackTerm (b ^^ c.getLsbD 14))) := parityBelow_xor _ _ 15
  rw [crcBit_eq_xor_feedbackTerm, hxor, hshift, bitParity_feedbackTerm, hparity, Bool.xor_assoc, Bool.xor_comm b]

/-- The parity of the fold is that of the number of bits set in the sequence. -/
theorem bitParity_crcBits (c : CrcWord) (l : List Bool) :
    bitParity (crcBits c l) = (bitParity c ^^ (l.count true).bodd) := by
  induction l generalizing c with
  | nil => simp
  | cons b l ih =>
    rw [crcBits_cons, ih, bitParity_crcBit, Bool.xor_assoc]
    cases b <;> simp [Nat.bodd_succ]

theorem bitParity_crc15 (bs : List Byte) : bitParity (crc15 bs) = ((foldedBits bs).count true).bodd := by
  rw [crc15_eq_crcBits, bitParity_crcBits]
  exact Bool.false_xor _

/-! ## The software function (R89) -/

theorem crc15StepU16_of_lt {st : Half} (h : st.toNat < 2 ^ 15) (x : Byte) :
    crc15StepU16 st x = some (footerValue (crc15Step (BitVec.ofNat 15 st.toNat) x)) := by
  rw [crc15StepU16, getLsbD_eq_false_of_toNat_lt h le_rfl, BitVec.ofNat_toNat]
  rfl

theorem crc15StepU16_of_le {st : Half} (h : 2 ^ 15 ≤ st.toNat) (x : Byte) : crc15StepU16 st x = none := by
  have hbit : st.getLsbD 15 = true := by
    rw [← BitVec.msb_eq_getLsbD_last, BitVec.msb_eq_decide]
    exact decide_eq_true h
  rw [crc15StepU16, hbit]
  rfl

end Sys2Proof.Machine
end

section
/-! The statements of 40_crc15.md on error detection and the software function. -/

namespace Sys2Proof

open Machine Safety

/-- Settles O25: the flip adds the constant, stepped some number of times, and an injective step keeps that from 0. -/
theorem singleFoldedFlipIsDetected : Obligations.SingleFoldedFlipIsDetected := by
  intro bs n hn h
  rw [crc15_flipFolded hn] at h
  exact zeroStep_iterate_poly_ne_zero _ (by simpa using h)

/-- Settles O26: were the checksums equal, that of the difference would be 0, whose parity is even. -/
theorem oddFoldedFlipsAreDetected : Obligations.OddFoldedFlipsAreDetected := by
  intro a b hlength hodd heq
  obtain ⟨hlinear, -⟩ := foldIsLinear
  have hdiff : crc15 (List.zipWith (· ^^^ ·) a b) = 0#15 := by rw [hlinear a b hlength, heq, BitVec.xor_self]
  have hparity := bitParity_crc15 (List.zipWith (· ^^^ ·) a b)
  rw [hdiff, foldedBits_zipWith_xor] at hparity
  rw [Nat.mod_two_of_bodd, ← hparity] at hodd
  exact absurd hodd (by decide)

/-- Settles O27: the first flip adds what the second adds, stepped 127 times more, and that is the same. -/
theorem flipsOnePeriodApartAreMissed : Obligations.FlipsOnePeriodApartAreMissed := by
  intro bs n hn
  have hfirst : 7 * bs.length - 1 - n = 7 * bs.length - 1 - (n + 127) + 127 := by omega
  rw [crc15_flipFolded (by simpa), flipFolded_length, crc15_flipFolded (by omega), hfirst, Function.iterate_add_apply,
    zeroStep_iterate_period, BitVec.xor_assoc, BitVec.xor_self, BitVec.xor_zero]

/-- Settles O28: bit 15 of the state decides; below it the state is the block's, and so is the step. -/
theorem softwareStepAgreesBelowBit15 : Obligations.SoftwareStepAgreesBelowBit15 := by
  intro st x
  refine ⟨fun h => ⟨_, crc15StepU16_of_lt h x, ?_, footerValue_toNat _⟩, fun h => crc15StepU16_of_le h x⟩
  rw [footerValue_toNat]
  exact (crc15Step _ x).isLt

end Sys2Proof
end

section
/-! SUPPORT. What a BB command leaves unchanged, what a command done again changes, and BB_HOLD after a resample (42_bangbang.md
R101, R104, 20_memory.md R47, 41_register_access.md R93). -/

namespace Sys2Proof.Machine

open Safety

/-! ## The frame of a BB command (R101, R104, R106) -/

/-- From `s` to `t` the CRC unit, the inputs, the operand registers, VALID and the outputs of every servo but that of index `r`
are unchanged. -/
def BangBangKeeps (r : RegIdx) (s t : State) : Prop :=
  t.crc = s.crc ∧ t.matched = s.matched ∧ t.crcStream = s.crcStream ∧ t.inputs = s.inputs ∧ t.valid = s.valid ∧
    (∀ q : OpReg, t.operand q = s.operand q) ∧
    ∀ sv : Servo, servoIndex sv ≠ r → t.act sv = s.act sv ∧ t.pwout sv = s.pwout sv

theorem bangBangKeeps_raiseFault (r : RegIdx) (c : FaultCode) (s : State) : BangBangKeeps r s (raiseFault c s) :=
  ⟨rfl, rfl, rfl, rfl, rfl, raiseFault_operand c s, fun sv _ => ⟨raiseFault_act c s sv, raiseFault_pwout c s sv⟩⟩

@[simp] theorem evalServo_inputs (s : State) (sv : Servo) : (evalServo s sv).inputs = s.inputs := by
  obtain h | ⟨pw, h⟩ := evalServo_cases s sv <;> simp [h]

@[simp] theorem evalServo_valid (s : State) (sv : Servo) : (evalServo s sv).valid = s.valid := by
  obtain h | ⟨pw, h⟩ := evalServo_cases s sv <;> simp [h]

theorem evalServo_pwout_of_ne (s : State) {sv sw : Servo} (hne : sw ≠ sv) : (evalServo s sv).pwout sw = s.pwout sw := by
  obtain h | ⟨pw, h⟩ := evalServo_cases s sv <;> simp [h, emitAct_pwout, hne]

theorem bangBangKeeps_evalServo (s : State) (sv : Servo) :
    BangBangKeeps (servoIndex sv) s ((evalServo s sv).record .ok) := by
  refine ⟨by simp, by simp, by simp, by simp, by simp, by simp, fun sw hsw => ?_⟩
  have hne : sw ≠ sv := ne_of_apply_ne servoIndex hsw
  simp [evalServo_act, evalServo_pwout_of_ne, hne]

theorem bangBangKeeps_emitAct (s : State) (sv : Servo) (pw : Half) :
    BangBangKeeps (servoIndex sv) s ((emitAct s sv pw).record .ok) := by
  refine ⟨by simp, by simp, by simp, by simp, by simp, by simp, fun sw hsw => ?_⟩
  have hne : sw ≠ sv := ne_of_apply_ne servoIndex hsw
  simp [emitAct_pwout, hne]

/-- A BB command ends in a fault, which changes none of it, or with its effect on its servo. -/
theorem bangBangKeeps_onServo {r : RegIdx} {reads : Servo → List OpReg} {effect : State → Servo → State} {s t : State}
    (heffect : ∀ sv, BangBangKeeps (servoIndex sv) s ((effect s sv).record .ok)) (h : onServo r reads effect s = .next t) :
    BangBangKeeps r s t := by
  obtain ⟨c, rfl⟩ | ⟨sv, rfl, -, rfl⟩ := onServo_next h
  · exact bangBangKeeps_raiseFault r c s
  · exact heffect sv

/-- BB_HOLD records no decision (R104). -/
theorem exec_bbHold_act {r : RegIdx} {s t : State} (h : exec (.bbHold r) s = .next t) (sv : Servo) : t.act sv = s.act sv := by
  obtain ⟨c, rfl⟩ | ⟨sw, -, -, rfl⟩ := onServo_next ((exec_bbHold r s).symm.trans h)
  · exact raiseFault_act c s sv
  · simp [holdServo]

/-! ## A command done again (R47) -/

/-- A second fault of a kind changes `ERR` no further. -/
@[simp] theorem errAfter_errAfter (e : BitVec 4) (c : FaultCode) : errAfter (errAfter e c) c = errAfter e c := by
  by_cases he : e = 0#4
  · simp [he, errAfter_of_ne_zero]
  · simp [errAfter_of_ne_zero he]

theorem State.writeOperand_of_operand_eq {s : State} {q : OpReg} {v : Half} (h : s.operand q = v) : s.writeOperand q v = s := by
  subst h
  rcases q with (_ | _) | (_ | _) | _ | (_ | _) | (_ | _) <;> rfl

theorem State.markValid_of_isValid {s : State} {q : OpReg} (h : s.isValid q = true) : s.markValid q = s := by
  have hvalid : s.valid ||| 1#9 <<< validBit q = s.valid := by
    refine BitVec.eq_of_getLsbD_eq fun k _ => ?_
    have hbit : (1#9 <<< validBit q).getLsbD k = (decide (validBit q < 9) && decide (validBit q = k)) :=
      BitVec.getLsbD_twoPow _ _
    rw [BitVec.getLsbD_or, hbit]
    by_cases hk : validBit q = k
    · subst hk
      rw [State.isValid] at h
      rw [h, Bool.true_or]
    · simp [hk]
  rw [State.markValid, hvalid]

/-- A SETR of a value its register holds, marked written, adds its Ok to the history and changes nothing else. -/
theorem State.afterSetr_of_written {s : State} {q : OpReg} {v : Half} (hoperand : s.operand q = v)
    (hvalid : s.isValid q = true) : s.afterSetr q v = s.record .ok := by
  rw [State.afterSetr, State.writeOperand_of_operand_eq hoperand, State.markValid_of_isValid hvalid]

/-! ## BB_HOLD after BB_EVAL and a resample (R93, R145) -/

/-- A servo ready for BB_EVAL is ready for BB_HOLD. -/
theorem holdReady_of_evalReady {s : State} {sv : Servo} (h : EvalReady s sv) : HoldReady s sv := by
  obtain ⟨⟨-, hfb, -, hmin, hmax⟩, hrange⟩ := h
  exact ⟨⟨hfb, hmin, hmax⟩, hrange⟩

@[simp] theorem holdReady_afterEval (s : State) (sw sv : Servo) : HoldReady (s.afterEval sw) sv ↔ HoldReady s sv := by
  simp [HoldReady, HoldWritten, InRange]

/-- A resample on the scale leaves the servo ready. -/
theorem holdReady_afterSetr_fb {s : State} {sv : Servo} (h : HoldReady s sv) {g : Half} (hg : g.toNat ≤ 100) :
    HoldReady (s.afterSetr (.fb sv) g) sv := by
  obtain ⟨⟨-, hmin, hmax⟩, hcal, -⟩ := h
  simp [HoldReady, HoldWritten, InRange, State.afterSetr_operand, State.afterSetr_isValid, hmin, hmax, hcal, hg]

@[simp] theorem State.afterHold_pwout_self (s : State) (sv : Servo) : (s.afterHold sv).pwout sv = holdWidth s sv := by
  simp [State.afterHold, holdServo, emitAct_pwout]

/-- After a BB_HOLD whose checks pass, PWOUT is the holding map's value as a number (R102, R104). -/
theorem afterHold_pwout_toNat {s : State} {sv : Servo} (h : HoldReady s sv) :
    ((s.afterHold sv).pwout sv).toNat = holdPw (feedbackOf s sv) (pwminOf s sv) (pwmaxOf s sv) := by
  obtain ⟨-, hrange⟩ := h
  rw [State.afterHold_pwout_self, holdWidth_toNat hrange]

end Sys2Proof.Machine
end

section
/-! The statements of 42_bangbang.md, 20_memory.md and 70_reset_and_hazards.md on frames, repetition and the resample. -/

namespace Sys2Proof

open Machine Safety

/-- Settles O46: a fault changes none of it; BB_EVAL writes ACT and PWOUT of its servo, BB_HOLD its PWOUT. -/
theorem bangBangFrame : Obligations.BangBangFrame := by
  intro s t r h
  have hkeeps : BangBangKeeps r s t := by
    obtain h | h := h
    · exact bangBangKeeps_onServo (bangBangKeeps_evalServo s) h
    · exact bangBangKeeps_onServo (effect := holdServo) (fun sv => bangBangKeeps_emitAct s sv _) h
  obtain ⟨hcrc, hmatched, hstream, hinputs, hvalid, hoperand, hother⟩ := hkeeps
  exact ⟨hcrc, hmatched, hstream, hinputs, hvalid, hoperand, hother, exec_bbHold_act⟩

/-- Settles O49: the second time each register is written the value it holds, or the same fault is entered again. -/
theorem otherCommandsAreIdempotent : Obligations.OtherCommandsAreIdempotent := by
  rintro i s (rfl | ⟨f, rfl⟩ | ⟨r, v, rfl⟩)
  · exact ⟨_, .ok, .inl rfl, rfl, rfl, rfl⟩
  · exact ⟨_, .ok, .inl rfl, rfl, rfl, rfl⟩
  · obtain ⟨q, rfl⟩ | hr := regIdx_cases r
    · have hagain := State.afterSetr_of_written (s := s.afterSetr q v) (q := q) (v := v) (by simp)
        (by simp [State.afterSetr_isValid])
      exact ⟨_, .ok, .inl rfl, exec_setReg q v s, by simp, (exec_setReg q v _).trans (congrArg _ hagain)⟩
    · have hillegal : ¬(Instr.setr r v).WellFormed := by
        rw [setr_wellFormed]
        omega
      have hagain : raiseFault .badIndex (raiseFault .badIndex s) =
          { raiseFault .badIndex s with history := (raiseFault .badIndex s).history ++ [.fault .badIndex] } := by
        rw [raiseFault, raiseFault_err, errAfter_errAfter]
        rfl
      exact ⟨_, .fault .badIndex, .inr ⟨rfl, Bool.eq_false_iff.mpr hillegal⟩, exec_setr_of_not_writable hr v s, rfl,
        (exec_setr_of_not_writable hr v _).trans (congrArg _ hagain)⟩

/-- Settles O50: BB_EVAL leaves the operands, so BB_HOLD finds the resample, or the old feedback, and its checks pass. -/
theorem resampleReachesTheHold : Obligations.ResampleReachesTheHold := by
  intro s sv ready
  have hready : HoldReady (s.afterEval sv) sv := (holdReady_afterEval s sv sv).mpr (holdReady_of_evalReady ready)
  refine ⟨fun g hg => ?_, ?_⟩
  · have hresampled := holdReady_afterSetr_fb hready hg
    refine ⟨((s.afterEval sv).afterSetr (.fb sv) g).afterHold sv, ?_, by simp, by simp, ?_⟩
    · rw [runCommands_cons (exec_bbEval_of_ready ready), runCommands_cons (exec_setReg _ _ _),
        runCommands_cons (exec_bbHold_of_ready hresampled), runCommands]
    · rw [afterHold_pwout_toNat hresampled]
      simp [feedbackOf, pwminOf, pwmaxOf, State.afterSetr_operand, holdPw]
  · refine ⟨(s.afterEval sv).afterHold sv, ?_, by simp, by simp, ?_⟩
    · rw [runCommands_cons (exec_bbEval_of_ready ready), runCommands_cons (exec_bbHold_of_ready hready), runCommands]
    · rw [afterHold_pwout_toNat hready]
      simp [feedbackOf, pwminOf, pwmaxOf, holdPw]

end Sys2Proof
end
